-- ==== Sys2Proof/Word.lean ====
section
/-! DEFINITION. The bit vectors of the part: bytes on the mill link and in the record store, and the 16-bit check register (R203, R205). -/
namespace Sys2Proof

/-- One byte of a link frame or of a store record (R203). -/
abbrev Byte := BitVec 8

/-- The 16-bit register of the check (R205). -/
abbrev Check := BitVec 16

end Sys2Proof
end

