-- ==== Sys2Proof/Names.lean ====
section
/-! DEFINITION. The fixed sets of names that commands carry: bridges and channels 1 to 4, the thirteen input lines, the two range conditions, and a date and time (00_scope.md "Numbering", R142, R108, R183). -/
namespace Sys2Proof

/-- Bridge n, load-cell channel n, lines En and Xn, lamps Ln and Kn (00_scope.md, "Numbering"). -/
inductive BridgeNo
  | b1 | b2 | b3 | b4
  deriving DecidableEq, Repr

/-- The thirteen input lines of R142. -/
inductive InputLine
  | e (n : BridgeNo)
  | x (n : BridgeNo)
  | cp | jp | wp | tr | ss
  deriving DecidableEq, Repr

/-- Which of the two range flags a persistence timer belongs to (R108). -/
inductive RangeKind
  | over | under
  deriving DecidableEq, Repr

/-- A mill time: calendar date and time to the second (R183); all zeros while the clock is unset. -/
structure MillTime where
  year : Nat
  month : Nat
  day : Nat
  hour : Nat
  minute : Nat
  second : Nat
  deriving DecidableEq, Repr

end Sys2Proof
end

