-- ==== Sys2Proof/Syntax.lean ====
section
/-! DEFINITION. The commands of the part: one constructor per row of spec/opcode_table.json, in the table's order. -/
namespace Sys2Proof

/-- A command. The first forty are the requests of the mill link: each carries the frame's tag and the request's
fields as the frame gives them (R203, R204), so that every value a field can hold, in range or out of it, is a
command. The others are the events that reach the part from its wires, its load cells, its timers, its store's
write hardware, its clock and its power supply. -/
inductive Instr
  /-- STATUS (R199). -/
  | status (tag : Byte)
  /-- ATTENTION (R201). -/
  | attention (tag : Byte)
  /-- LINK SET (R198); 0 means not given (R203). -/
  | linkSet (tag : Byte) (minRun maxRun : Nat)
  /-- TIME SET (R183). -/
  | timeSet (tag : Byte) (time : MillTime)
  /-- REPORT START (R195); set 1 GROWERS, 2 DELIVERIES, 3 WINDOWS. -/
  | reportStart (tag : Byte) (set : Nat)
  /-- REPORT STOP (R197). -/
  | reportStop (tag : Byte) (slot : Nat)
  /-- BIND (R96); the nine fields of R204, pass 1 GROSS, 2 TARE. -/
  | bind (tag : Byte) (bridge pass vehicle cls insp wish grower delivery : Nat)
  /-- UNBIND (R100). -/
  | unbind (tag : Byte) (bridge : Nat)
  /-- BRIDGE QUERY (R116). -/
  | bridgeQuery (tag : Byte) (bridge : Nat)
  /-- CLEAR FAULT (R111). -/
  | clearFault (tag : Byte) (bridge : Nat)
  /-- ZERO NOW (R107). -/
  | zeroNow (tag : Byte) (bridge : Nat)
  /-- TIP (R16). -/
  | tip (tag : Byte) (delivery : Nat)
  /-- VOID (R19). -/
  | voidDelivery (tag : Byte) (delivery : Nat)
  /-- NET FROM STORED (R13). -/
  | netFromStored (tag : Byte) (delivery : Nat)
  /-- DELIVERY QUERY (R23). -/
  | deliveryQuery (tag : Byte) (delivery : Nat)
  /-- VEHICLE SET (R26). -/
  | vehicleSet (tag : Byte) (vehicle cls : Nat)
  /-- VEHICLE DROP (R27). -/
  | vehicleDrop (tag : Byte) (vehicle : Nat)
  /-- GROWER SET (R85). -/
  | growerSet (tag : Byte) (grower fibre : Nat)
  /-- GROWER DROP (R86). -/
  | growerDrop (tag : Byte) (grower : Nat)
  /-- GROWER QUERY (R87). -/
  | growerQuery (tag : Byte) (grower : Nat)
  /-- SAMPLE CLOSE (R53). -/
  | sampleClose (tag : Byte) (window : Nat)
  /-- SAMPLE RESULT (R59). -/
  | sampleResult (tag : Byte) (window brix pol : Nat)
  /-- SAMPLE VOID (R61). -/
  | sampleVoid (tag : Byte) (window : Nat)
  /-- WINDOW QUERY (R67). -/
  | windowQuery (tag : Byte) (window : Nat)
  /-- PROFILE LOAD (R158); profile 1 A, 2 B; entries of field id and value (R203). -/
  | profileLoad (tag : Byte) (profile : Nat) (entries : List (Nat × Nat))
  /-- PROFILE READ (R159); 0 WORKING, 1 A, 2 B. -/
  | profileRead (tag : Byte) (profile : Nat)
  /-- SHIFT MARK (R162); 1 A, 2 B, 3 REPEAT. -/
  | shiftMark (tag : Byte) (letter : Nat)
  /-- SEASON OPEN (R165). -/
  | seasonOpen (tag : Byte)
  /-- CONFIG OPEN (R128). -/
  | configOpen (tag : Byte) (channel : Nat)
  /-- CONFIG SET (R129); entries of field id and value (R203). -/
  | configSet (tag : Byte) (channel : Nat) (entries : List (Nat × Nat))
  /-- CONFIG APPLY (R130). -/
  | configApply (tag : Byte) (channel : Nat)
  /-- CONFIG DISCARD (R132). -/
  | configDiscard (tag : Byte) (channel : Nat)
  /-- CAL BEGIN (R134). -/
  | calBegin (tag : Byte) (channel : Nat)
  /-- CAL ZERO (R135). -/
  | calZero (tag : Byte) (channel : Nat)
  /-- CAL SPAN (R135). -/
  | calSpan (tag : Byte) (channel mass : Nat)
  /-- CAL END (R137); ending 1 COMMIT, 2 ABANDON. -/
  | calEnd (tag : Byte) (channel ending : Nat)
  /-- CAL DEFAULT (R139). -/
  | calDefault (tag : Byte) (channel : Nat)
  /-- LINE SET (R155); line id 1 to 23, entries of setting id and value (R203). -/
  | lineSet (tag : Byte) (line : Nat) (entries : List (Nat × Nat))
  /-- STORE READ (R180). -/
  | storeRead (tag : Byte) (sequence : Nat)
  /-- EXPORT MARK (R179). -/
  | exportMark (tag : Byte) (sequence : Nat)
  /-- UNKNOWN_REQUEST_KIND (R189): a received frame whose kind is no request kind. -/
  | unknownRequestKind (kind tag : Byte) (body : List Byte)
  /-- FRAME_RECEIVED (R186): the bytes of a whole frame, from its start byte to its second check byte. -/
  | frameReceived (bytes : List Byte)
  /-- FRAME_BAD_LENGTH (R187): the length byte that follows a start byte. -/
  | frameBadLength (length : Byte)
  /-- FRAME_GAP (R187): more than 20 ms have passed inside a frame. -/
  | frameGap
  /-- TRANSMIT_COMPLETE (R193): the frame on the transmitter has ended. -/
  | transmitComplete
  /-- RAW_LEVEL_CHANGE (R143): the wire's electrical level, high or low. -/
  | rawLevelChange (line : InputLine) (high : Bool)
  /-- INPUT_HOLD_EXPIRY (R143). -/
  | inputHoldExpiry (line : InputLine)
  /-- CLEAR_HOLD_EXPIRY (R93). -/
  | clearHoldExpiry (bridge : BridgeNo)
  /-- BINDING_EXPIRY (R98). -/
  | bindingExpiry (bridge : BridgeNo)
  /-- RANGE_PERSISTENCE_EXPIRY (R108). -/
  | rangePersistenceExpiry (bridge : BridgeNo) (kind : RangeKind)
  /-- STROKE_CONFIRM_EXPIRY (R56). -/
  | strokeConfirmExpiry
  /-- SC_PULSE_END (R149). -/
  | scPulseEnd
  /-- SC_GAP_END (R149). -/
  | scGapEnd
  /-- CAL_STEP_TIMEOUT (R136). -/
  | calStepTimeout (channel : BridgeNo)
  /-- CAL_IDLE_TIMEOUT (R137). -/
  | calIdleTimeout (channel : BridgeNo)
  /-- MINUTE_EVENT (R184). -/
  | minuteEvent
  /-- RUNNING_MINUTES_LIMIT (R51). -/
  | runningMinutesLimit
  /-- RESULT_DEADLINE_EXPIRY (R60). -/
  | resultDeadlineExpiry (window : Nat)
  /-- ZERO_DEADLINE_EXPIRY (R104). -/
  | zeroDeadlineExpiry (bridge : BridgeNo)
  /-- LOAD_CELL_CONVERSION (R121): the count, and whether the sense lines agree with the excitation (R126). -/
  | loadCellConversion (channel : BridgeNo) (count : Int) (agree : Bool)
  /-- STABLE_ENDING (R123): the period in progress has reached its length without a stray reading. -/
  | stableEnding (channel : BridgeNo)
  /-- WIRE_OFF_RAISE (R126): the run of failing sense checks has reached 5. -/
  | wireOffRaise (channel : BridgeNo)
  /-- WIRE_OFF_CLEAR (R126): the run of passing sense checks has reached 100. -/
  | wireOffClear (channel : BridgeNo)
  /-- WRITE_COMPLETE (R176): the verify of the write in flight has passed. -/
  | writeComplete
  /-- VERIFY_FAILURE (R177): the verify of the write in flight has failed. -/
  | verifyFailure
  /-- RESTART (R2, R181, R184): how many minute-counter advances and seconds of the mill clock fell while the part
  was down, whether the backup timebase stopped, and how many next good slots fail the scan's test in turn. -/
  | restart (minutesDown secondsDown : Nat) (timebaseStopped : Bool) (failingSlots : Nat)
  /-- BLANK_START (R185): power-up or the RESET pin while the memory lacks its format mark. -/
  | blankStart
  deriving DecidableEq, Repr

end Sys2Proof
end

