-- ==== Sys2Proof/Decode.lean ====
section
/-! DEFINITION. The command that a word of spec/opcode_table.json spells. The table gives no row any bits (log 28): the part's requests are frames of the mill link, whose decoding stands in Machine/Operands.lean. -/
namespace Sys2Proof

/-- No row of the table has bits, so no word spells a command (log 28). -/
def decodeTableWord (_nbits _w : Nat) : Option Instr := none

end Sys2Proof
end

