-- ==== Sys2Proof/Config.lean ====
section
/-! DEFINITION. The capacities the part fixes, each with its rule, and the free values: what the spec leaves unstated. -/
namespace Sys2Proof.Config

/-- Delivery records and reserved slots together (R6). -/
def deliveryCapacity : Nat := 96
/-- Delivery and window numbers run from 1 to 999,999 within a season (00_scope.md, "Numbering"). -/
def numberLimit : Nat := 999999
/-- Parts of one delivery (R4). -/
def partsCapacity : Nat := 8
/-- Vehicle records (R25). -/
def vehicleCapacity : Nat := 128
/-- Feed Queue entries (R30). -/
def feedCapacity : Nat := 48
/-- Window records (R46). -/
def windowCapacity : Nat := 32
/-- Grower records (R84). -/
def growerCapacity : Nat := 240
/-- The greatest value a 32-bit figure holds (R84, R161, R169, R184). -/
def max32 : Nat := 4294967295
/-- Record slots (R168). -/
def slotCount : Nat := 4096
/-- Accounting capacity: slots less the 32 spares (R168). -/
def accountingCapacity : Nat := 4064
/-- The bad-slot list (R168). -/
def badSlotCapacity : Nat := 32
/-- The LOW threshold on free less reserved (R172). -/
def lowThreshold : Nat := 64
/-- What free less reserved must be for a gross BIND (R96, test 14). -/
def grossBindThreshold : Nat := 66
/-- Shared places of the write-request list (R173). -/
def sharedPlaces : Nat := 8
/-- Input buffer and reply list (R188, R189). -/
def bufferCapacity : Nat := 4
/-- Notice queue (R192). -/
def noticeCapacity : Nat := 24
/-- The zero backlog's ceiling (R104). -/
def backlogLimit : Nat := 15
/-- Failing sense checks in a row that raise wire-off (R126). -/
def wireOffRun : Nat := 5
/-- Passing sense checks in a row that clear wire-off (R126). -/
def wireClearRun : Nat := 100
/-- Clear hold, in milliseconds (R93). -/
def clearHoldMs : Nat := 2000
/-- Range persistence, in milliseconds (R108). -/
def persistenceMs : Nat := 10000
/-- SC pulse, in milliseconds (R149). -/
def scPulseMs : Nat := 500
/-- SC gap, in milliseconds (R149). -/
def scGapMs : Nat := 20
/-- Calibration step limit, in milliseconds (R135). -/
def calStepMs : Nat := 120000
/-- Calibration idle limit, in milliseconds (R134). -/
def calIdleMs : Nat := 1800000
/-- Span less zero counts that a good commit needs (R137). -/
def minimumSpan : Int := 10000
/-- The nominal calibration's span counts (R133). -/
def nominalSpan : Int := 4000000
/-- The ends of the signed 24-bit count range (R121, R126). -/
def countMin : Int := -8388608
def countMax : Int := 8388607

/-- FREE VALUE (log 10, DESIGN CHOICE). What a 32-bit figure holds after an addition whose exact
sum, the argument, does not fit: the spec states no result there, but for the figures that saturate. -/
opaque overflow32 : Nat → BitVec 32

/-- FREE VALUE (log 25, DESIGN CHOICE). The unrounded-and-rounded reading, in kg, of a filtered count when the
calibration's span counts equal its zero counts: R122 divides by their difference and states no result there. -/
opaque scalelessReading : Int → Int

end Sys2Proof.Config
end

