-- ==== Sys2Proof/Machine/Types.lean ====
section
/-! DEFINITION. The shapes of what the twelve blocks hold, block by block, and of what they pass to one another: tickets, records, requests, replies and notices. -/
namespace Sys2Proof.Machine

open Sys2Proof

/-! ## Shapes used by several blocks -/

/-- A table: records by key, in one canonical form (keys strictly rising). -/
abbrev Table (α : Type) := List (Nat × α)

/-- One thing for each of the four bridges. -/
structure Quad (α : Type) where
  q1 : α
  q2 : α
  q3 : α
  q4 : α
  deriving DecidableEq, Repr

/-- The result codes of R190. -/
inductive ResultCode
  | ok | badKind | badLength | badField | notFound | wrongState | full | inUse | storeLow | locked | mismatch
  | tooLate | already | storeFailed
  deriving DecidableEq, Repr

/-! ## Deliveries and vehicles (chapter 1) -/

/-- WEIGHED or STORED (R3). -/
inductive TareSource
  | weighed | stored
  deriving DecidableEq, Repr

/-- The gross field of a delivery (R3). -/
structure GrossWeighing where
  kg : Nat
  bridge : BridgeNo
  sequence : Nat
  time : MillTime
  deriving DecidableEq, Repr

/-- Tare, trash and net: present together once a delivery is netted (R3). -/
structure Netting where
  tare : Nat
  source : TareSource
  sequence : Nat
  trash : Nat
  net : Nat
  deriving DecidableEq, Repr

/-- The stored netting pending of R13. -/
structure PendingNetting where
  tare : Nat
  trash : Nat
  net : Nat
  time : MillTime
  deriving DecidableEq, Repr

/-- One entry of a parts list (R4). -/
structure Part where
  window : Nat
  kg : Nat
  deriving DecidableEq, Repr

/-- Delivery states (Section 1.2). -/
inductive DeliveryState
  | openGross | queued | crushed | settling | voiding
  deriving DecidableEq, Repr

/-- A delivery record but for its number, which is its key in the table (R3). OVERCRUSH is held with its kilograms. -/
structure Delivery where
  grower : Nat
  vehicle : Nat
  cls : Nat
  inspection : Nat
  fibre : Nat
  gross : GrossWeighing
  netting : Option Netting
  pendingNet : Option PendingNetting
  queueMass : Nat
  crushed : Nat
  parts : List Part
  state : DeliveryState
  estimated : Bool
  overcrush : Option Nat
  folded : Bool
  nominalPart : Bool
  tareRejected : Bool
  deriving DecidableEq, Repr

/-- The Delivery Table (R3, R6, R7). -/
structure DeliveryTable where
  records : Table Delivery
  reserved : Nat
  counter : Nat
  deriving DecidableEq, Repr

/-- A vehicle's stored tare with where it came from (R25). -/
structure StoredTare where
  kg : Nat
  time : MillTime
  sequence : Nat
  deriving DecidableEq, Repr

/-- A vehicle record but for its code, its key (R25). -/
structure Vehicle where
  cls : Nat
  stored : Option StoredTare
  uses : Nat
  deriving DecidableEq, Repr

/-! ## Windows (chapter 3) -/

/-- Window states (Section 3.2). -/
inductive WindowState
  | opened | closed | resulted | voided
  deriving DecidableEq, Repr

/-- Brix and pol, in hundredths of a percent (R46). -/
structure Quality where
  brix : Nat
  pol : Nat
  deriving DecidableEq, Repr

/-- A window record but for its number, its key (R46). -/
structure Window where
  shift : Nat
  state : WindowState
  openedAt : MillTime
  closedAt : Option MillTime
  running : Nat
  deadline : Option Nat
  cane : Nat
  attributed : Nat
  folded : Nat
  orphan : Nat
  juice : Nat
  water : Nat
  commanded : Nat
  seen : Nat
  missed : Nat
  quality : Option Quality
  refs : Nat
  extended : Bool
  thin : Bool
  expired : Bool
  fallback : Bool
  noStrokes : Bool
  summaryWritten : Bool
  deriving DecidableEq, Repr

/-- The Sample Window Table (chapter 3's opening list). -/
structure WindowTable where
  records : Table Window
  counter : Nat
  pacing : Nat
  sumCanePol : Nat
  sumCaneBrix : Nat
  sumCane : Nat
  deriving DecidableEq, Repr

/-! ## Growers (chapter 4) -/

/-- A grower record but for its code, its key (R84). -/
structure Grower where
  fibre : Nat
  settled : Nat
  netTotal : Nat
  payableTotal : Nat
  juiceTotal : Nat
  openCount : Nat
  lastSettled : Option Nat
  saturated : Bool
  deriving DecidableEq, Repr

/-! ## Bridges (chapter 5) -/

/-- Bridge states (R92). -/
inductive BridgeState
  | idle | arrived | bound | capture | clearing | calibrating | locked
  deriving DecidableEq, Repr

/-- Lock causes (R108). -/
inductive LockCause
  | unconfigured | calInvalid | wireOff | overrange | underrange | zeroBand
  deriving DecidableEq, Repr

/-- Where a bridge returns when a calibration session ends without a commit (R92, R112). -/
inductive EntryState
  | idle
  | locked (cause : LockCause)
  deriving DecidableEq, Repr

/-- What a binding's pass needs (R95). -/
inductive BindPass
  | gross (cls grower inspection : Nat) (wish : Bool)
  | tare (delivery : Nat)
  deriving DecidableEq, Repr

/-- A binding (R95). -/
structure Binding where
  vehicle : Nat
  pass : BindPass
  bindTime : MillTime
  life : Nat
  deriving DecidableEq, Repr

/-- A range persistence timer (R108): stopped, running with its milliseconds left, or run out while its flag stands. -/
inductive Persistence
  | stopped
  | running (left : Nat)
  | ranOut
  deriving DecidableEq, Repr

/-- A bridge controller (R92). APPLY_PENDING has its one home on the channel, as the held flag (R120).
A timer that may be stopped is an option of its milliseconds left. -/
structure Bridge where
  state : BridgeState
  present : Bool
  zeroDue : Bool
  zeroRequest : Bool
  binding : Option Binding
  currentZero : Int
  backlog : Nat
  zeroDeadline : Nat
  lockCause : Option LockCause
  pendingCause : Option LockCause
  entry : Option EntryState
  bindTimer : Option Nat
  clearHold : Option Nat
  overTimer : Persistence
  underTimer : Persistence
  deriving DecidableEq, Repr

/-! ## Load-cell channels (chapter 6) -/

/-- A configuration record (R127). -/
structure ChannelConfig where
  capacity : Nat
  division : Nat
  filter : Nat
  stability : Nat
  threshold : Nat
  zeroBand : Nat
  deriving DecidableEq, Repr

/-- A pending configuration; `held` is the held flag, shown as APPLY_PENDING (R120). -/
structure PendingConfig where
  config : ChannelConfig
  held : Bool
  deriving DecidableEq, Repr

/-- Last outcome of a calibration (R133). -/
inductive CalOutcome
  | none | done | bad
  deriving DecidableEq, Repr

/-- A calibration record (R133); `valid` tells VALID from NOMINAL. -/
structure Calibration where
  zeroCounts : Int
  spanCounts : Int
  testMass : Nat
  valid : Bool
  outcome : CalOutcome
  deriving DecidableEq, Repr

/-- The body of a CONFIG record (R131, R205). -/
structure ConfigBody where
  channel : BridgeNo
  madeNominal : Bool
  new : ChannelConfig
  replaced : ChannelConfig
  deriving DecidableEq, Repr

/-- The body of a CAL record (R137, R139, R205). -/
structure CalBody where
  channel : BridgeNo
  new : Calibration
  replaced : Calibration
  deriving DecidableEq, Repr

/-- A channel's record owed (R120). -/
inductive ChannelOwed
  | config (body : ConfigBody)
  | cal (body : CalBody)
  deriving DecidableEq, Repr

/-- The kind of a calibration step; a span step carries its test mass (R135). -/
inductive CalStepKind
  | zero
  | span (mass : Nat)
  deriving DecidableEq, Repr

/-- A step in progress with the milliseconds left of its limit (R135). -/
structure CalStep where
  kind : CalStepKind
  left : Nat
  deriving DecidableEq, Repr

/-- A calibration session (R134); `wireOff` tells of a wire-off raised while its CAL record is being written, which
the bridge takes after the completion (R138). -/
structure Session where
  zeroResult : Option Int
  spanResult : Option (Int × Nat)
  step : Option CalStep
  idle : Option Nat
  committed : Bool
  wireOff : Bool
  deriving DecidableEq, Repr

/-- A stability period in progress: its first reading, in kg, and the conversions made since (R123). -/
structure Period where
  first : Int
  conversions : Nat
  deriving DecidableEq, Repr

/-- A load-cell channel (R120). The running mean lists its counts newest first. The filtered count is the last one formed;
what it holds before one is formed is log 37. -/
structure Channel where
  active : ChannelConfig
  pending : Option PendingConfig
  cal : Calibration
  owed : Option ChannelOwed
  session : Option Session
  mean : List Int
  filtered : Int
  rounded : Option Int
  period : Option Period
  lastStable : Bool
  overrange : Bool
  underrange : Bool
  wireOff : Bool
  failRun : Nat
  passRun : Nat
  deriving DecidableEq, Repr

/-! ## Field lines (chapter 7) -/

/-- Polarity (R142). -/
inductive Polarity
  | activeHigh | activeLow
  deriving DecidableEq, Repr

/-- An input line (R142, R143). `raw` and `filtered` are electrical levels, true for high; a filtered level of
none is unsettled (R154). `hold` is the hold timer: the milliseconds since the raw level changed, none when stopped.
`steady` is how many milliseconds the raw level of an unsettled line has held (R154), and 0 once it is settled. -/
structure Input where
  polarity : Polarity
  filterMs : Nat
  raw : Bool
  filtered : Option Bool
  hold : Option Nat
  steady : Nat
  deriving DecidableEq, Repr

/-- Safe values of a lamp line (R151). -/
inductive SafeValue
  | off | on | hold
  deriving DecidableEq, Repr

/-- What a bridge demands of a lamp (R152). -/
inductive LampDemand
  | off | on | safe
  deriving DecidableEq, Repr

/-- A lamp line: safe value and current value (R151). -/
structure Lamp where
  safe : SafeValue
  on : Bool
  deriving DecidableEq, Repr

/-- The SC line: off, in a gap before a new pulse, or on; with the milliseconds left (R149). -/
inductive ScLine
  | off
  | gap (left : Nat)
  | on (left : Nat)
  deriving DecidableEq, Repr

/-- An outstanding sampler command: its issuing window and the milliseconds left to confirm (R149). -/
structure SamplerCommand where
  window : Nat
  left : Nat
  deriving DecidableEq, Repr

/-- The field line unit (chapter 7). -/
structure FieldLines where
  e : Quad Input
  x : Quad Input
  cp : Input
  jp : Input
  wp : Input
  tr : Input
  ss : Input
  cpMass : Nat
  jpMass : Nat
  wpMass : Nat
  entryLamp : Quad Lamp
  exitLamp : Quad Lamp
  sc : ScLine
  al : Bool
  command : Option SamplerCommand
  deriving DecidableEq, Repr

/-! ## Shift profiles (chapter 8) -/

/-- A profile (R157); default tares by class, trash permille by inspection code. -/
structure Profile where
  tares : List Nat
  trash : List Nat
  target : Nat
  strokes : Nat
  minStrokes : Nat
  confirm : Nat
  maxRunning : Nat
  resultTimeout : Nat
  defaultBrix : Nat
  defaultPol : Nat
  zeroInterval : Nat
  urgentLimit : Nat
  bindLife : Nat
  retare : Nat
  deriving DecidableEq, Repr

/-- A shadow's letter (R157). -/
inductive Letter
  | a | b
  deriving DecidableEq, Repr

/-- A shift accumulator with its saturation mark (R161). -/
structure Acc where
  value : Nat
  saturated : Bool
  deriving DecidableEq, Repr

/-- The nine accumulators of R161, in its order. -/
structure Accumulators where
  cane : Acc
  orphan : Acc
  juice : Acc
  water : Acc
  net : Acc
  payable : Acc
  deliveries : Acc
  windows : Acc
  stoppage : Acc
  deriving DecidableEq, Repr

/-- What a SHIFT record carries (R163, R164). -/
structure ShiftBody where
  number : Nat
  letter : Option Letter
  start : MillTime
  finish : MillTime
  acc : Accumulators
  window : Nat
  extended : Bool
  deriving DecidableEq, Repr

/-- What a SEASON record carries (R166, R205). -/
structure SeasonBody where
  season : Nat
  lastDelivery : Nat
  lastWindow : Nat
  number : Nat
  letter : Option Letter
  start : MillTime
  finish : MillTime
  acc : Accumulators
  deriving DecidableEq, Repr

/-- The shift profile unit's record owed (R164, R166). -/
inductive ShiftOwed
  | shift (body : ShiftBody)
  | season (body : SeasonBody)
  deriving DecidableEq, Repr

/-- The shift profile unit (chapter 8). -/
structure ShiftUnit where
  working : Profile
  shadowA : Profile
  shadowB : Profile
  lastLetter : Option Letter
  number : Nat
  season : Nat
  letter : Option Letter
  start : MillTime
  acc : Accumulators
  owed : Option ShiftOwed
  deriving DecidableEq, Repr

/-! ## Records and the store (chapters 9 and 11) -/

/-- Stored-tare status of a gross ticket, with the figures when applied (R204). -/
inductive StoredStatus
  | notAsked
  | applied (tare trash net : Nat)
  | unavailable
  deriving DecidableEq, Repr

/-- The gross ticket block (R204). -/
structure GrossTicket where
  delivery : Nat
  grower : Nat
  vehicle : Nat
  cls : Nat
  inspection : Nat
  bridge : BridgeNo
  fibre : Nat
  gross : Nat
  time : MillTime
  stored : StoredStatus
  deriving DecidableEq, Repr

/-- Status of a tare ticket; trash and net when ACCEPTED (R11, R12). -/
inductive TareStatus
  | accepted (trash net : Nat)
  | rejected
  deriving DecidableEq, Repr

/-- The tare ticket block (R204); no bridge for source STORED. -/
structure TareTicket where
  delivery : Nat
  vehicle : Nat
  bridge : Option BridgeNo
  gross : Nat
  tare : Nat
  status : TareStatus
  time : MillTime
  deriving DecidableEq, Repr

/-- The body of a VOID record (R205). -/
structure VoidBody where
  delivery : Nat
  grower : Nat
  vehicle : Nat
  grossSequence : Nat
  gross : Nat
  deriving DecidableEq, Repr

/-- One part in a SETTLE record (R80, R205). -/
structure SettlePart where
  window : Nat
  kg : Nat
  brix : Nat
  pol : Nat
  fallback : Bool
  juice : Nat
  deriving DecidableEq, Repr

/-- The figures of the six stages (R74 to R79). -/
structure SettleFigures where
  mass : Nat
  brix : Nat
  pol : Nat
  factor : Nat
  polc : Nat
  brixc : Nat
  rsf : Nat
  payable : Nat
  juice : Nat
  lowQuality : Bool
  deriving DecidableEq, Repr

/-- The body of a SETTLE record (R80, R205): the delivery as it stands, its netting, its parts and the figures. -/
structure SettleBody where
  delivery : Nat
  record : Delivery
  netting : Netting
  parts : List SettlePart
  figures : SettleFigures
  fallbackUsed : Bool
  deriving DecidableEq, Repr

/-- The body of a record (R168). -/
inductive RecordBody
  | gross (t : GrossTicket)
  | tare (t : TareTicket)
  | void (v : VoidBody)
  | settle (b : SettleBody)
  | window (number : Nat) (w : Window)
  | shift (b : ShiftBody)
  | season (b : SeasonBody)
  | config (b : ConfigBody)
  | cal (b : CalBody)
  deriving DecidableEq, Repr

/-- Who asks for a record, and what it concerns (R173). `channel` asks for a record owed, `session` for the CAL
record of a calibration session. -/
inductive Requester
  | bridge (b : BridgeNo)
  | delivery (n : Nat)
  | window (n : Nat)
  | shiftUnit
  | channel (c : BridgeNo)
  | session (c : BridgeNo)
  deriving DecidableEq, Repr

/-- A write request (R173). Its place in the order of asking is its place in the list that holds it. -/
structure WriteRequest where
  requester : Requester
  body : RecordBody
  deriving DecidableEq, Repr

/-- A record as its slot holds it (R168, R205); `kind` is the kind code. -/
structure StoredRecord where
  sequence : Nat
  kind : Nat
  time : MillTime
  body : List Byte
  check : Check
  deriving DecidableEq, Repr

/-- The write in flight (R175, R177); `second` says that its slot is being written the second time. -/
structure InFlight where
  request : WriteRequest
  slot : Nat
  record : StoredRecord
  second : Bool
  deriving DecidableEq, Repr

/-- Store states (R172). -/
inductive StoreState
  | normal | low | failed
  deriving DecidableEq, Repr

/-- The record store (chapter 9). The port is stopped when the state is FAILED, writing when a write is in flight,
else idle (R174). -/
structure Store where
  formatMark : Bool
  slots : Table StoredRecord
  lastSequence : Nat
  exportMark : Nat
  badSlots : List Nat
  lastSlot : Nat
  reserved : Nat
  state : StoreState
  tickets : Quad (Option WriteRequest)
  shared : List WriteRequest
  waiting : List WriteRequest
  inFlight : Option InFlight
  lastTicket : Option BridgeNo
  deriving DecidableEq, Repr

/-- The mill clock and the minute counter (R183, R184); `ms` counts the milliseconds of the running second (log 1). -/
structure Clock where
  reading : MillTime
  isSet : Bool
  ms : Nat
  minutes : Nat
  deriving DecidableEq, Repr

/-! ## The mill link (chapter 10) -/

/-- The attention flags of R200. -/
inductive Flag
  | bridgeLocked | storeLow | storeFailed | sampleExpired | samplerMiss | orphanCane
  | restarted | blankStart | frameError | inputOverrun | noticeLost | badSlot | clockUnset | windowExtended
  deriving DecidableEq, Repr

/-- A flag and its repeat bit (R200). -/
structure FlagBits where
  standing : Bool
  again : Bool
  deriving DecidableEq, Repr

/-- The fourteen attention flags (R200). -/
structure Attention where
  bridgeLocked : FlagBits
  storeLow : FlagBits
  storeFailed : FlagBits
  sampleExpired : FlagBits
  samplerMiss : FlagBits
  orphanCane : FlagBits
  restarted : FlagBits
  blankStart : FlagBits
  frameError : FlagBits
  inputOverrun : FlagBits
  noticeLost : FlagBits
  badSlot : FlagBits
  clockUnset : FlagBits
  windowExtended : FlagBits
  deriving DecidableEq, Repr

/-- A frame of the input buffer: kind, tag and body (R188). -/
structure Frame where
  kind : Byte
  tag : Byte
  body : List Byte
  deriving DecidableEq, Repr

/-- The receiver (R186): hunting; or in a frame, before its length byte, or with the bytes taken since the start
byte (length byte first) and how many more it takes. -/
inductive Receiver
  | hunting
  | length
  | body (taken : List Byte) (more : Nat)
  deriving DecidableEq, Repr

/-- A request, decoded from its frame (R203); the fields are those of the request rows of `Instr`. -/
inductive Request
  | status
  | attention
  | linkSet (minRun maxRun : Nat)
  | timeSet (time : MillTime)
  | reportStart (set : Nat)
  | reportStop (slot : Nat)
  | bind (bridge pass vehicle cls insp wish grower delivery : Nat)
  | unbind (bridge : Nat)
  | bridgeQuery (bridge : Nat)
  | clearFault (bridge : Nat)
  | zeroNow (bridge : Nat)
  | tip (delivery : Nat)
  | voidDelivery (delivery : Nat)
  | netFromStored (delivery : Nat)
  | deliveryQuery (delivery : Nat)
  | vehicleSet (vehicle cls : Nat)
  | vehicleDrop (vehicle : Nat)
  | growerSet (grower fibre : Nat)
  | growerDrop (grower : Nat)
  | growerQuery (grower : Nat)
  | sampleClose (window : Nat)
  | sampleResult (window brix pol : Nat)
  | sampleVoid (window : Nat)
  | windowQuery (window : Nat)
  | profileLoad (profile : Nat) (entries : List (Nat × Nat))
  | profileRead (profile : Nat)
  | shiftMark (letter : Nat)
  | seasonOpen
  | configOpen (channel : Nat)
  | configSet (channel : Nat) (entries : List (Nat × Nat))
  | configApply (channel : Nat)
  | configDiscard (channel : Nat)
  | calBegin (channel : Nat)
  | calZero (channel : Nat)
  | calSpan (channel mass : Nat)
  | calEnd (channel ending : Nat)
  | calDefault (channel : Nat)
  | lineSet (line : Nat) (entries : List (Nat × Nat))
  | storeRead (sequence : Nat)
  | exportMark (sequence : Nat)
  deriving DecidableEq, Repr

/-- A bridge in brief, in STATUS (R199). -/
structure BridgeBrief where
  state : BridgeState
  present : Bool
  zeroDue : Bool
  applyPending : Bool
  deriving DecidableEq, Repr

/-- What STATUS reports (R199). -/
structure StatusReport where
  season : Nat
  shift : Nat
  dtUsed : Nat
  dtReserved : Nat
  feedLength : Nat
  windowsUsed : Nat
  openWindow : Nat
  storeState : StoreState
  free : Nat
  reserved : Nat
  lastSequence : Nat
  exportMark : Nat
  badSlots : Nat
  bridges : Quad BridgeBrief
  clockSet : Bool
  notices : Nat
  slot1 : Bool
  slot2 : Bool
  deriving DecidableEq, Repr

/-- What BRIDGE QUERY reports (R116). -/
structure BridgeReport where
  state : BridgeState
  present : Bool
  zeroDue : Bool
  applyPending : Bool
  zeroRequest : Bool
  lockCause : Option LockCause
  pendingCause : Option LockCause
  entry : Option EntryState
  binding : Option Binding
  bindSeconds : Nat
  backlog : Nat
  minutesLeft : Nat
  rounded : Option Int
  lastStable : Bool
  entryLamp : LampDemand
  exitLamp : LampDemand
  deriving DecidableEq, Repr

/-- What DELIVERY QUERY and a DELIVERIES item report (R23). -/
structure DeliveryReport where
  number : Nat
  record : Delivery
  remainder : Nat
  tareBridge : Option BridgeNo
  storedPending : Bool
  deriving DecidableEq, Repr

/-- The pacing state that WINDOW QUERY adds for the OPEN window (R67). -/
structure PacingReport where
  pacing : Nat
  spacing : Nat
  outstanding : Option Nat
  deriving DecidableEq, Repr

/-- What WINDOW QUERY and a WINDOWS item report (R67). -/
structure WindowReport where
  number : Nat
  record : Window
  juiceYield : Nat
  waterPercent : Nat
  noCane : Bool
  minutesLeft : Option Nat
  sampler : Option PacingReport
  deriving DecidableEq, Repr

/-- What PROFILE READ reports (R159). -/
structure ProfileReport where
  profile : Profile
  lastLetter : Option Letter
  shift : Nat
  season : Nat
  start : MillTime
  acc : Accumulators
  owed : Bool
  deriving DecidableEq, Repr

/-- A line's settings and level, in the reply to LINE SET (R155). -/
inductive LineReport
  | input (polarity : Polarity) (filterMs : Nat) (mass : Option Nat) (level : Option Bool)
  | lamp (safe : SafeValue) (on : Bool) (demand : LampDemand)
  | output (on : Bool)
  deriving DecidableEq, Repr

/-- What an OK reply carries beside its result code, request by request. -/
inductive ReplyContent
  | none
  | status (r : StatusReport)
  | attention (flags : Attention)
  | linkSettings (minRun maxRun : Nat)
  | clockBefore (t : MillTime)
  | reportSlot (slot : Nat)
  | itemCount (n : Nat)
  | binding (bridge : BridgeNo) (b : Binding)
  | discarded (b : Binding)
  | bridge (b : BridgeNo) (r : BridgeReport)
  | tipped (queueMass : Nat) (estimated : Bool)
  | delivery (r : DeliveryReport)
  | vehicle (code : Nat) (v : Vehicle)
  | grower (code : Nat) (g : Grower)
  | successor (window : Nat)
  | quality (q : Quality)
  | window (r : WindowReport)
  | profile (p : Profile)
  | profileReport (r : ProfileReport)
  | shiftMarked (number : Nat) (letter : Letter) (window : Nat) (extended : Bool)
  | season (number : Nat)
  | configOpened (pending active : ChannelConfig) (cal : Calibration)
  | config (pending : ChannelConfig)
  | applied (held : Bool)
  | committed (bad : Bool)
  | line (r : LineReport)
  | record (damaged : Bool) (r : StoredRecord)
  | exported (mark free reserved : Nat) (state : StoreState)
  | kindReceived (kind : Byte)
  deriving DecidableEq, Repr

/-- A reply (R189, R190). -/
structure Reply where
  kind : Byte
  tag : Byte
  code : ResultCode
  content : ReplyContent
  deriving DecidableEq, Repr

/-- Which step a CAL STEP notice reports; `whole` when it reports the ending of a whole session (R204). -/
inductive CalStepName
  | zero | span | commit | whole
  deriving DecidableEq, Repr

/-- The outcome of a CAL STEP notice (R204). -/
inductive CalStepOutcome
  | done | bad | timedOut | abandoned
  deriving DecidableEq, Repr

/-- The figures of a WINDOW CLOSED notice (R49). -/
structure WindowClosedNotice where
  number : Nat
  state : WindowState
  cane : Nat
  juice : Nat
  water : Nat
  commanded : Nat
  seen : Nat
  missed : Nat
  deadline : Option Nat
  successor : Nat
  deriving DecidableEq, Repr

/-- What a notice reports (R191). -/
inductive NoticeBody
  | grossTicket (sequence : Nat) (t : GrossTicket)
  | tareTicket (sequence : Nat) (t : TareTicket)
  | voided (delivery sequence : Nat)
  | settled (sequence : Nat) (b : SettleBody)
  | windowClosed (n : WindowClosedNotice)
  | windowFinal (number sequence : Nat) (w : Window)
  | shiftClosed (sequence : Nat) (b : ShiftBody)
  | bindExpired (bridge : BridgeNo) (b : Binding)
  | calStep (channel : BridgeNo) (step : CalStepName) (outcome : CalStepOutcome) (counts : Option Int)
  | configApplied (channel : BridgeNo) (config : ChannelConfig) (wasHeld madeNominal : Bool)
  | bridgeLocked (bridge : BridgeNo) (cause : LockCause) (discarded : Option Binding)
  | storeAlarm (state : StoreState) (free reserved : Nat)
  deriving DecidableEq, Repr

/-- A notice with its number (R191). -/
structure Notice where
  number : Byte
  body : NoticeBody
  deriving DecidableEq, Repr

/-- The sets a report walks (R195). -/
inductive ReportSet
  | growers | deliveries | windows
  deriving DecidableEq, Repr

/-- An active report stream (R195); `cut` says that SEASON OPEN has ended it (R197). -/
structure Stream where
  set : ReportSet
  lastKey : Option Nat
  count : Nat
  tag : Byte
  cut : Bool
  deriving DecidableEq, Repr

/-- Report slots 1 and 2 (R195). -/
inductive SlotNo
  | one | two
  deriving DecidableEq, Repr

/-- The slot whose stream holds the turn, and the turn count (R194). -/
structure Turn where
  slot : SlotNo
  count : Nat
  deriving DecidableEq, Repr

/-- The record a REPORT ITEM carries (R196). -/
inductive ItemRecord
  | grower (code : Nat) (g : Grower)
  | delivery (r : DeliveryReport)
  | window (r : WindowReport)
  deriving DecidableEq, Repr

/-- A frame the part sends (R189, R191, R196). -/
inductive OutFrame
  | reply (r : Reply)
  | notice (n : Notice)
  | item (tag : Byte) (slot : SlotNo) (index : Nat) (set : ReportSet) (record : ItemRecord)
  | finish (tag : Byte) (slot : SlotNo) (count : Nat) (cut : Bool)
  deriving DecidableEq, Repr

/-- What a report frame on the transmitter counts for, as long as its stream's turn lasts (R194). -/
structure TurnMark where
  slot : SlotNo
  isEnd : Bool
  deriving DecidableEq, Repr

/-- The frame being sent, with its bytes on the line (R203). -/
structure Sending where
  frame : OutFrame
  bytes : List Byte
  mark : Option TurnMark
  deriving DecidableEq, Repr

/-- The mill link port (chapter 10). -/
structure Link where
  minRun : Nat
  maxRun : Nat
  receiver : Receiver
  input : List Frame
  replies : List Reply
  notices : List Notice
  noticeNumber : Byte
  slot1 : Option Stream
  slot2 : Option Stream
  turn : Option Turn
  sending : Option Sending
  flags : Attention
  deriving DecidableEq, Repr

end Sys2Proof.Machine
end

