-- ==== Sys2Proof/Machine/Bytes.lean ====
section
/-! DEFINITION. Byte order, widths and the check: how figures become bytes and bytes become figures (R203, R205). -/
namespace Sys2Proof.Machine

open Sys2Proof

/-- An unsigned integer in `w` bytes, most significant byte first (R203). -/
def beBytes : Nat → Nat → List Byte
  | 0, _ => []
  | w + 1, v => BitVec.ofNat 8 (v / 256 ^ w) :: beBytes w v

/-- The number that bytes spell, most significant byte first (R203). -/
def beNat (bytes : List Byte) : Nat := bytes.foldl (fun n b => n * 256 + b.toNat) 0

/-- The `w`-byte field of a body at an offset (R203). -/
def field (body : List Byte) (offset w : Nat) : Nat := beNat ((body.drop offset).take w)

/-- A load-cell count or a signed reading: 32-bit two's complement (R203). -/
def signedBytes (z : Int) : List Byte := beBytes 4 (z % 4294967296).toNat

/-- Yes or no (R203). -/
def boolByte (b : Bool) : List Byte := [if b then 1 else 0]

/-- A mill time: year less 2000, then month to second; an unset clock is six zeros (R203). -/
def timeBytes (t : MillTime) : List Byte :=
  beBytes 1 (t.year - 2000) ++ beBytes 1 t.month ++ beBytes 1 t.day ++ beBytes 1 t.hour ++ beBytes 1 t.minute ++
    beBytes 1 t.second

/-- Bits numbered from 0, the least significant (R203). -/
def flagNumber : List Bool → Nat
  | [] => 0
  | b :: bs => (if b then 1 else 0) + 2 * flagNumber bs

/-- A flag byte (R203). -/
def flagByte (bits : List Bool) : List Byte := beBytes 1 (flagNumber bits)

/-- One shift of the check register (R205, step 3). -/
def checkShift (c : Check) : Check := if c.msb then (c <<< 1) ^^^ 0x1021 else c <<< 1

/-- One byte into the check register (R205, steps 2 and 3). -/
def checkByte (c : Check) (b : Byte) : Check :=
  let c := c ^^^ (b.zeroExtend 16 <<< 8)
  checkShift (checkShift (checkShift (checkShift (checkShift (checkShift (checkShift (checkShift c)))))))

/-- The check over bytes (R205). -/
def checkOf (bytes : List Byte) : Check := bytes.foldl checkByte 0xFFFF

/-- The check's two bytes, high byte first (R203). -/
def checkBytes (c : Check) : List Byte := beBytes 2 c.toNat

/-- A whole frame: start byte, length, kind, tag, body and check over length to body (R203). -/
def frameBytes (kind tag : Byte) (body : List Byte) : List Byte :=
  let covered := BitVec.ofNat 8 (body.length + 2) :: kind :: tag :: body
  0xA5 :: (covered ++ checkBytes (checkOf covered))

end Sys2Proof.Machine
end

