-- ==== Sys2Proof/Machine/Layouts.lean ====
section
/-! DEFINITION. The codes and byte layouts of R190 and R203 to R205: every reply, notice, report frame and record as bytes. Bodies that are not central keep the order of their owners' rules; where such a body has optional fields its presence byte stands last (log 20), the widths that R203 does not give are those of log 38, the presence bits that stand for several fields those of log 39, the codes it does not give those of log 40, and a binding outside the BIND reply is laid out as log 41 says. -/
namespace Sys2Proof.Machine

open Sys2Proof

/-! ## Codes (R190, R204) -/

/-- R190. -/
def ResultCode.code : ResultCode → Nat
  | .ok => 0 | .badKind => 1 | .badLength => 2 | .badField => 3 | .notFound => 4 | .wrongState => 5 | .full => 6
  | .inUse => 7 | .storeLow => 8 | .locked => 9 | .mismatch => 10 | .tooLate => 11 | .already => 12
  | .storeFailed => 13

/-- Bridges and channels are numbered 1 to 4. -/
def bridgeCode : BridgeNo → Nat
  | .b1 => 1 | .b2 => 2 | .b3 => 3 | .b4 => 4

def tareSourceCode : TareSource → Nat
  | .weighed => 1 | .stored => 2

def windowStateCode : WindowState → Nat
  | .opened => 1 | .closed => 2 | .resulted => 3 | .voided => 4

def deliveryStateCode : DeliveryState → Nat
  | .openGross => 1 | .queued => 2 | .crushed => 3 | .settling => 4 | .voiding => 5

def bridgeStateCode : BridgeState → Nat
  | .idle => 1 | .arrived => 2 | .bound => 3 | .capture => 4 | .clearing => 5 | .calibrating => 6 | .locked => 7

def lockCauseCode : LockCause → Nat
  | .unconfigured => 1 | .calInvalid => 2 | .wireOff => 3 | .overrange => 4 | .underrange => 5 | .zeroBand => 6

def storeStateCode : StoreState → Nat
  | .normal => 1 | .low => 2 | .failed => 3

def calStepCode : CalStepName → Nat
  | .whole => 0 | .zero => 1 | .span => 2 | .commit => 3

def calStepOutcomeCode : CalStepOutcome → Nat
  | .done => 1 | .bad => 2 | .timedOut => 3 | .abandoned => 4

def calOutcomeCode : CalOutcome → Nat
  | .none => 0 | .done => 1 | .bad => 2

/-- Letter of a shift: 0 none, 1 A, 2 B (R205). -/
def letterCode : Option Letter → Nat
  | none => 0 | some .a => 1 | some .b => 2

def safeValueCode : SafeValue → Nat
  | .off => 0 | .on => 1 | .hold => 2

def lampDemandCode : LampDemand → Nat
  | .off => 0 | .on => 1 | .safe => 2

/-- ACTIVE_HIGH 0, ACTIVE_LOW 1 (R203). -/
def polarityCode : Polarity → Nat
  | .activeHigh => 0 | .activeLow => 1

/-- Filtered level: 0 inactive, 1 active, 2 unsettled (R204). -/
def levelCode : Option Bool → Nat
  | some false => 0 | some true => 1 | none => 2

def reportSetCode : ReportSet → Nat
  | .growers => 1 | .deliveries => 2 | .windows => 3

def slotCode : SlotNo → Nat
  | .one => 1 | .two => 2

/-! ## Shared pieces -/

/-- An optional field in its place: its bytes, or zeros of the same width (R203). -/
def optional {α : Type} (width : Nat) (f : α → List Byte) : Option α → List Byte
  | some a => f a
  | none => beBytes width 0

/-- The delivery flag byte (R204); bits 4 and 5 belong to the settlement, bit 6 to the queries. -/
def deliveryFlags (d : Delivery) (lowQuality fallbackUsed rejected : Bool) : List Byte :=
  flagByte [d.estimated, d.overcrush.isSome, d.folded, d.nominalPart, lowQuality, fallbackUsed, rejected]

/-- The window flag byte (R204). -/
def windowFlags (w : Window) : List Byte :=
  flagByte [w.extended, w.thin, w.expired, w.fallback, w.noStrokes, w.summaryWritten]

/-- The OK reply to BIND after its result byte: the nine fields of the request as the binding holds them, with the
resolved class, then bind time and bind life (R204). -/
def bindReplyBytes (b : BridgeNo) (x : Binding) : List Byte :=
  beBytes 1 (bridgeCode b) ++
  (match x.pass with
    | .gross cls grower inspection wish =>
        beBytes 1 1 ++ beBytes 2 x.vehicle ++ beBytes 1 cls ++ beBytes 1 inspection ++ boolByte wish ++
          beBytes 2 grower ++ beBytes 4 0
    | .tare delivery => beBytes 1 2 ++ beBytes 2 x.vehicle ++ beBytes 5 0 ++ beBytes 4 delivery) ++
  timeBytes x.bindTime ++ beBytes 1 x.life

/-- The store slots a binding holds (R95). -/
def BindPass.storeSlots : BindPass → Nat
  | .gross _ _ _ _ => 2
  | .tare _ => 1

/-- The Delivery Table slots a binding holds (R95). -/
def BindPass.tableSlots : BindPass → Nat
  | .gross _ _ _ _ => 1
  | .tare _ => 0

/-- A binding's whole record, its fields in the order of R95's table, 21 bytes. The pass alone tells which fields are
there, with no presence byte; the bind life takes a byte, as in the reply to BIND, and the reservations held are two
counts of a byte each (DESIGN CHOICE, log 41). -/
def bindingBytes (x : Binding) : List Byte :=
  (match x.pass with
    | .gross cls grower inspection wish =>
        beBytes 1 1 ++ beBytes 2 x.vehicle ++ beBytes 1 cls ++ beBytes 2 grower ++ beBytes 1 inspection ++
          boolByte wish ++ beBytes 4 0
    | .tare delivery => beBytes 1 2 ++ beBytes 2 x.vehicle ++ beBytes 5 0 ++ beBytes 4 delivery) ++
  timeBytes x.bindTime ++ beBytes 1 x.life ++ beBytes 1 x.pass.storeSlots ++ beBytes 1 x.pass.tableSlots

/-- The gross ticket block, 36 bytes (R204). -/
def grossTicketBytes (t : GrossTicket) : List Byte :=
  beBytes 4 t.delivery ++ beBytes 2 t.grower ++ beBytes 2 t.vehicle ++ beBytes 1 t.cls ++ beBytes 1 t.inspection ++
    beBytes 1 (bridgeCode t.bridge) ++ beBytes 2 t.fibre ++ beBytes 4 t.gross ++ timeBytes t.time ++
    (match t.stored with
      | .notAsked => beBytes 1 0 ++ beBytes 12 0
      | .applied tare trash net => beBytes 1 1 ++ beBytes 4 tare ++ beBytes 4 trash ++ beBytes 4 net
      | .unavailable => beBytes 1 2 ++ beBytes 12 0)

/-- The tare ticket block, 31 bytes (R204); bridge 0 and source STORED when no bridge weighed it. -/
def tareTicketBytes (t : TareTicket) : List Byte :=
  beBytes 4 t.delivery ++ beBytes 2 t.vehicle ++
    (match t.bridge with
      | some b => beBytes 1 (bridgeCode b) ++ beBytes 1 (tareSourceCode .weighed)
      | none => beBytes 1 0 ++ beBytes 1 (tareSourceCode .stored)) ++
    (match t.status with
      | .accepted trash net => beBytes 1 1 ++ beBytes 4 t.gross ++ beBytes 4 t.tare ++ beBytes 4 trash ++ beBytes 4 net
      | .rejected => beBytes 1 2 ++ beBytes 4 t.gross ++ beBytes 4 t.tare ++ beBytes 8 0) ++
    timeBytes t.time

/-- The nine accumulators, 4 bytes each, in the order of R161 (R205). -/
def accumulatorList (a : Accumulators) : List Acc :=
  [a.cane, a.orphan, a.juice, a.water, a.net, a.payable, a.deliveries, a.windows, a.stoppage]

/-- The nine accumulators' values; PROFILE READ and SHIFT CLOSED carry them in the SHIFT record's 4 bytes each, though
R203 names no kind for the counts and minutes among them (DESIGN CHOICE, log 38), and without the saturation marks
(DESIGN CHOICE, log 39). -/
def accumulatorBytes (a : Accumulators) : List Byte := (accumulatorList a).flatMap fun x => beBytes 4 x.value

/-- The saturation byte-pair: bit k for the k-th accumulator (R205). -/
def saturationBytes (a : Accumulators) : List Byte := beBytes 2 (flagNumber ((accumulatorList a).map (·.saturated)))

/-- Number through saturation pair: the first 55 bytes of a SHIFT body (R205). -/
def shiftHead (number : Nat) (letter : Option Letter) (start finish : MillTime) (a : Accumulators) : List Byte :=
  beBytes 4 number ++ beBytes 1 (letterCode letter) ++ timeBytes start ++ timeBytes finish ++ accumulatorBytes a ++
    saturationBytes a

/-- A configuration record: the 10 bytes that R205 lays out in a CONFIG record. The replies to CONFIG OPEN and CONFIG SET and
CONFIG APPLIED carry it in the same bytes, its division in 2 though R203 has 4 for a mass in kg (DESIGN CHOICE, log 38). -/
def configBytes (c : ChannelConfig) : List Byte :=
  beBytes 4 c.capacity ++ beBytes 2 c.division ++ beBytes 1 c.filter ++ beBytes 1 c.stability ++
    beBytes 1 c.threshold ++ beBytes 1 c.zeroBand

/-- A calibration: the 13 bytes that R205 lays out in a CAL record, each in the width that R203 gives its kind; so in the
reply to CONFIG OPEN too, where the last outcome follows (log 20). -/
def calibrationBytes (c : Calibration) : List Byte :=
  signedBytes c.zeroCounts ++ signedBytes c.spanCounts ++ beBytes 4 c.testMass ++ beBytes 1 (if c.valid then 1 else 2)

/-- Rounded half up, of quantities that cannot be negative (R1). -/
def roundHalfUp (a b : Nat) : Nat := (2 * a + b) / (2 * b)

/-- Juice yield or water % cane, in permille, 0 when there is no cane (R66). -/
def yieldOf (mass cane : Nat) : Nat := if cane = 0 then 0 else roundHalfUp (mass * 1000) cane

/-- The window record of R46 with its yield figures, in the order of the WINDOW record: 80 bytes (R205). -/
def windowBytes (number : Nat) (w : Window) : List Byte :=
  beBytes 4 number ++ beBytes 4 w.shift ++ beBytes 1 (windowStateCode w.state) ++ timeBytes w.openedAt ++
    optional 6 timeBytes w.closedAt ++ beBytes 4 w.running ++ optional 4 (beBytes 4) w.deadline ++
    beBytes 4 w.cane ++ beBytes 4 w.attributed ++ beBytes 4 w.folded ++ beBytes 4 w.orphan ++
    beBytes 4 w.juice ++ beBytes 4 w.water ++
    beBytes 4 w.commanded ++ beBytes 4 w.seen ++ beBytes 4 w.missed ++
    optional 4 (fun q : Quality => beBytes 2 q.brix ++ beBytes 2 q.pol) w.quality ++ beBytes 4 w.refs ++ windowFlags w ++
    beBytes 2 (yieldOf w.juice w.cane) ++ beBytes 2 (yieldOf w.water w.cane) ++ boolByte (w.cane == 0) ++
    flagByte [w.closedAt.isSome, w.deadline.isSome, w.quality.isSome]

/-! ## Record bodies (R205) -/

/-- A SETTLE record's body: 76 bytes and 17 for each part (R205). -/
def settleBytes (b : SettleBody) : List Byte :=
  let d := b.record
  let f := b.figures
  beBytes 4 b.delivery ++ beBytes 2 d.grower ++ beBytes 2 d.vehicle ++ beBytes 1 d.cls ++ beBytes 1 d.inspection ++
    beBytes 4 d.gross.kg ++ beBytes 1 (bridgeCode d.gross.bridge) ++ beBytes 4 d.gross.sequence ++
    beBytes 4 b.netting.tare ++ beBytes 1 (tareSourceCode b.netting.source) ++ beBytes 4 b.netting.sequence ++
    beBytes 4 b.netting.trash ++ beBytes 4 b.netting.net ++ beBytes 4 d.queueMass ++ beBytes 4 d.crushed ++
    beBytes 4 (d.overcrush.getD 0) ++
    beBytes 4 f.mass ++ beBytes 2 f.brix ++ beBytes 2 f.pol ++ beBytes 2 d.fibre ++ beBytes 2 f.factor ++
    beBytes 2 f.polc ++ beBytes 2 f.brixc ++ beBytes 2 f.rsf ++ beBytes 4 f.payable ++ beBytes 4 f.juice ++
    deliveryFlags d f.lowQuality b.fallbackUsed false ++ beBytes 1 b.parts.length ++
    b.parts.flatMap fun p =>
      beBytes 4 p.window ++ beBytes 4 p.kg ++ beBytes 2 p.brix ++ beBytes 2 p.pol ++ boolByte p.fallback ++
        beBytes 4 p.juice

/-- The body of a record (R204, R205). -/
def recordBodyBytes : RecordBody → List Byte
  | .gross t => grossTicketBytes t
  | .tare t => tareTicketBytes t
  | .void v => beBytes 4 v.delivery ++ beBytes 2 v.grower ++ beBytes 2 v.vehicle ++ beBytes 4 v.grossSequence ++ beBytes 4 v.gross
  | .settle b => settleBytes b
  | .window n w => windowBytes n w
  | .shift b =>
      shiftHead b.number b.letter b.start b.finish b.acc ++ beBytes 4 b.window ++ boolByte b.extended ++ beBytes 6 0
  | .season b =>
      beBytes 4 b.season ++ beBytes 4 b.lastDelivery ++ beBytes 4 b.lastWindow ++
        shiftHead b.number b.letter b.start b.finish b.acc
  | .config b => beBytes 1 (bridgeCode b.channel) ++ boolByte b.madeNominal ++ configBytes b.new ++ configBytes b.replaced
  | .cal b => beBytes 1 (bridgeCode b.channel) ++ calibrationBytes b.new ++ calibrationBytes b.replaced

/-- The kind code of a record (R205). -/
def recordKind : RecordBody → Nat
  | .gross _ => 1 | .tare _ => 2 | .void _ => 3 | .settle _ => 4 | .window _ _ => 5 | .shift _ => 6
  | .config _ => 7 | .cal _ => 8 | .season _ => 9

/-- A record's bytes before its check (R205). -/
def recordCovered (sequence kind : Nat) (time : MillTime) (body : List Byte) : List Byte :=
  beBytes 4 sequence ++ beBytes 1 kind ++ beBytes 2 body.length ++ timeBytes time ++ body

/-- The check a record should carry (R205). -/
def recordCheck (r : StoredRecord) : Check := checkOf (recordCovered r.sequence r.kind r.time r.body)

/-- A record as its slot holds it (R205). -/
def recordBytes (r : StoredRecord) : List Byte :=
  recordCovered r.sequence r.kind r.time r.body ++ checkBytes r.check

/-! ## Query contents, shared by replies and report items -/

/-- GROWER QUERY's record; the two counts take 4 bytes each (DESIGN CHOICE, log 38). -/
def growerBytes (code : Nat) (g : Grower) : List Byte :=
  beBytes 2 code ++ beBytes 2 g.fibre ++ beBytes 4 g.settled ++ beBytes 4 g.netTotal ++ beBytes 4 g.payableTotal ++
    beBytes 4 g.juiceTotal ++ beBytes 4 g.openCount ++ optional 4 (beBytes 4) g.lastSettled ++ boolByte g.saturated ++
    flagByte [g.lastSettled.isSome]

/-- DELIVERY QUERY's record. Its parts list is a count and then the parts it has, and one presence bit stands for tare,
trash and net together (DESIGN CHOICE, log 39). -/
def deliveryBytes (r : DeliveryReport) : List Byte :=
  let d := r.record
  beBytes 4 r.number ++ beBytes 2 d.grower ++ beBytes 2 d.vehicle ++ beBytes 1 d.cls ++ beBytes 1 d.inspection ++
    beBytes 2 d.fibre ++
    beBytes 4 d.gross.kg ++ beBytes 1 (bridgeCode d.gross.bridge) ++ beBytes 4 d.gross.sequence ++ timeBytes d.gross.time ++
    optional 17 (fun n : Netting =>
      beBytes 4 n.tare ++ beBytes 1 (tareSourceCode n.source) ++ beBytes 4 n.sequence ++ beBytes 4 n.trash ++ beBytes 4 n.net)
      d.netting ++
    optional 18 (fun p : PendingNetting => beBytes 4 p.tare ++ beBytes 4 p.trash ++ beBytes 4 p.net ++ timeBytes p.time)
      d.pendingNet ++
    beBytes 4 d.queueMass ++ beBytes 4 d.crushed ++ beBytes 1 d.parts.length ++
    (d.parts.flatMap fun p => beBytes 4 p.window ++ beBytes 4 p.kg) ++
    beBytes 1 (deliveryStateCode d.state) ++ deliveryFlags d false false d.tareRejected ++ beBytes 4 (d.overcrush.getD 0) ++
    beBytes 4 r.remainder ++ optional 1 (fun b => beBytes 1 (bridgeCode b)) r.tareBridge ++ boolByte r.storedPending ++
    flagByte [d.netting.isSome, d.pendingNet.isSome, r.tareBridge.isSome]

/-- WINDOW QUERY's contents: the WINDOW record's 80 bytes with the presence byte they end in, then what the query adds
with a presence byte of its own. One presence bit stands for what the OPEN window adds; the number of the outstanding
command's window has none beside the yes or no before it (DESIGN CHOICE, log 39). -/
def windowReportBytes (r : WindowReport) : List Byte :=
  windowBytes r.number r.record ++ optional 4 (beBytes 4) r.minutesLeft ++
    optional 13 (fun p : PacingReport =>
      beBytes 4 p.pacing ++ beBytes 4 p.spacing ++ boolByte p.outstanding.isSome ++ optional 4 (beBytes 4) p.outstanding)
      r.sampler ++
    flagByte [r.minutesLeft.isSome, r.sampler.isSome]

/-- VEHICLE SET's record; uses remaining takes 1 byte (DESIGN CHOICE, log 38). -/
def vehicleBytes (code : Nat) (v : Vehicle) : List Byte :=
  beBytes 2 code ++ beBytes 1 v.cls ++
    optional 14 (fun t : StoredTare => beBytes 4 t.kg ++ timeBytes t.time ++ beBytes 4 t.sequence) v.stored ++
    beBytes 1 v.uses ++ flagByte [v.stored.isSome]

/-- A profile's 26 fields in the order of their field ids (R203): masses and counts of strokes take 4 bytes, permille
figures, Brix and pol 2. R203 gives no width for the other seven: the maximum running minutes and the result timeout take
2 bytes, and stroke confirm, zero interval, urgent limit, bind life and re-tare interval 1 (DESIGN CHOICE, log 38). -/
def profileBytes (p : Profile) : List Byte :=
  (p.tares.flatMap fun t => beBytes 4 t) ++ (p.trash.flatMap fun t => beBytes 2 t) ++
    beBytes 4 p.target ++ beBytes 4 p.strokes ++ beBytes 4 p.minStrokes ++ beBytes 1 p.confirm ++ beBytes 2 p.maxRunning ++
    beBytes 2 p.resultTimeout ++ beBytes 2 p.defaultBrix ++ beBytes 2 p.defaultPol ++ beBytes 1 p.zeroInterval ++
    beBytes 1 p.urgentLimit ++ beBytes 1 p.bindLife ++ beBytes 1 p.retare

/-- An entry state: the code of the bridge's state, then that of the cause, 0 for IDLE (DESIGN CHOICE, log 40); the two
share one presence bit (log 39). -/
def entryBytes : EntryState → List Byte
  | .idle => beBytes 1 (bridgeStateCode .idle) ++ beBytes 1 0
  | .locked c => beBytes 1 (bridgeStateCode .locked) ++ beBytes 1 (lockCauseCode c)

def causeBytes (c : LockCause) : List Byte := beBytes 1 (lockCauseCode c)

/-- BRIDGE QUERY's contents; the seconds of bind life take 2 bytes, the backlog 1 and the minutes to the zero deadline 4
(DESIGN CHOICE, log 38). The seconds share the binding's presence bit and are 0 without one (DESIGN CHOICE, log 39). -/
def bridgeReportBytes (r : BridgeReport) : List Byte :=
  beBytes 1 (bridgeStateCode r.state) ++ boolByte r.present ++ boolByte r.zeroDue ++ boolByte r.applyPending ++
    boolByte r.zeroRequest ++ optional 1 causeBytes r.lockCause ++ optional 1 causeBytes r.pendingCause ++
    optional 2 entryBytes r.entry ++ optional 21 bindingBytes r.binding ++ beBytes 2 r.bindSeconds ++
    beBytes 1 r.backlog ++ beBytes 4 r.minutesLeft ++ optional 4 signedBytes r.rounded ++ boolByte r.lastStable ++
    beBytes 1 (lampDemandCode r.entryLamp) ++ beBytes 1 (lampDemandCode r.exitLamp) ++
    flagByte [r.lockCause.isSome, r.pendingCause.isSome, r.entry.isSome, r.binding.isSome, r.rounded.isSome]

/-- A bridge in STATUS: its state, and one flag byte for PRESENT, ZERO_DUE and APPLY_PENDING (DESIGN CHOICE, log 39). -/
def briefBytes (b : BridgeBrief) : List Byte :=
  beBytes 1 (bridgeStateCode b.state) ++ flagByte [b.present, b.zeroDue, b.applyPending]

/-- STATUS's contents: the part code, the revision and the counts of tables, bad slots and notices take 1 byte each, free
and reserved 4 (DESIGN CHOICE, log 38); one flag byte shows the two slots (log 39). -/
def statusBytes (r : StatusReport) : List Byte :=
  beBytes 1 240 ++ beBytes 1 2 ++ beBytes 4 r.season ++ beBytes 4 r.shift ++ beBytes 1 r.dtUsed ++ beBytes 1 r.dtReserved ++
    beBytes 1 r.feedLength ++ beBytes 1 r.windowsUsed ++ beBytes 4 r.openWindow ++ beBytes 1 (storeStateCode r.storeState) ++
    beBytes 4 r.free ++ beBytes 4 r.reserved ++ beBytes 4 r.lastSequence ++ beBytes 4 r.exportMark ++ beBytes 1 r.badSlots ++
    briefBytes r.bridges.q1 ++ briefBytes r.bridges.q2 ++ briefBytes r.bridges.q3 ++ briefBytes r.bridges.q4 ++
    boolByte r.clockSet ++ beBytes 1 r.notices ++ flagByte [r.slot1, r.slot2]

/-- The fourteen flags in the order of R200. -/
def flagList (a : Attention) : List FlagBits :=
  [a.bridgeLocked, a.storeLow, a.storeFailed, a.sampleExpired, a.samplerMiss, a.orphanCane, a.restarted, a.blankStart,
    a.frameError, a.inputOverrun, a.noticeLost, a.badSlot, a.clockUnset, a.windowExtended]

/-- ATTENTION's contents: a byte-pair of the flags and one of their repeat bits, bit k of the pair for the k-th flag
of R200 counted from 0, the high byte first (DESIGN CHOICE, log 39). -/
def attentionBytes (a : Attention) : List Byte :=
  beBytes 2 (flagNumber ((flagList a).map (·.standing))) ++ beBytes 2 (flagNumber ((flagList a).map (·.again)))

/-- LINE SET's contents (R155): a line's settings, then its level, or its value and demand. A pulse mass is a mass in kg,
so 4 bytes (R203); the filter time takes 2 (DESIGN CHOICE, log 38), and an input's pulse mass has its place and its
presence bit on every input line (log 39). -/
def lineBytes : LineReport → List Byte
  | .input p f m l =>
      beBytes 1 (polarityCode p) ++ beBytes 2 f ++ optional 4 (beBytes 4) m ++ beBytes 1 (levelCode l) ++ flagByte [m.isSome]
  | .lamp s o d => beBytes 1 (safeValueCode s) ++ boolByte o ++ beBytes 1 (lampDemandCode d)
  | .output o => boolByte o

/-! ## Replies (R203, R204) -/

/-- What follows the result byte of an OK reply. A configuration record takes R205's 10 bytes (DESIGN CHOICE, log 38). The byte that says whether a configuration was held is 1 for held and 0
for applied; the byte that says how a COMMIT stands is 1 for bad and 0 for requested (DESIGN CHOICE, log 40). Free and
reserved of EXPORT MARK take 4 bytes each (DESIGN CHOICE, log 38). -/
def contentBytes : ReplyContent → List Byte
  | .none => []
  | .status r => statusBytes r
  | .attention a => attentionBytes a
  | .linkSettings a b => beBytes 1 a ++ beBytes 1 b
  | .clockBefore t => timeBytes t
  | .reportSlot n => beBytes 1 n
  | .itemCount n => beBytes 4 n
  | .binding b x => bindReplyBytes b x
  | .discarded x => bindingBytes x
  | .bridge _ r => bridgeReportBytes r
  | .tipped m e => beBytes 4 m ++ boolByte e
  | .delivery r => deliveryBytes r
  | .vehicle c v => vehicleBytes c v
  | .grower c g => growerBytes c g
  | .successor n => beBytes 4 n
  | .quality q => beBytes 2 q.brix ++ beBytes 2 q.pol
  | .window r => windowReportBytes r
  | .profile p => profileBytes p
  | .profileReport r =>
      profileBytes r.profile ++ beBytes 1 (letterCode r.lastLetter) ++ beBytes 4 r.shift ++ beBytes 4 r.season ++
        timeBytes r.start ++ accumulatorBytes r.acc ++ boolByte r.owed
  | .shiftMarked n l w x => beBytes 4 n ++ beBytes 1 (letterCode (some l)) ++ beBytes 4 w ++ boolByte x
  | .season n => beBytes 4 n
  | .configOpened p a c => configBytes p ++ configBytes a ++ calibrationBytes c ++ beBytes 1 (calOutcomeCode c.outcome)
  | .config p => configBytes p
  | .applied h => boolByte h
  | .committed b => boolByte b
  | .line r => lineBytes r
  | .record damaged r => boolByte damaged ++ recordBytes r
  | .exported m f r s => beBytes 4 m ++ beBytes 4 f ++ beBytes 4 r ++ beBytes 1 (storeStateCode s)
  | .kindReceived k => [k]

/-- A reply's body: the result code, then the contents (R203). -/
def replyBody (r : Reply) : List Byte := beBytes 1 r.code.code ++ contentBytes r.content

/-! ## Notices (R203, R204) -/

/-- The notice kinds of R203. -/
def noticeKind : NoticeBody → Byte
  | .grossTicket _ _ => 0xC0
  | .tareTicket _ _ => 0xC1
  | .voided _ _ => 0xC2
  | .settled _ _ => 0xC3
  | .windowClosed _ => 0xC4
  | .windowFinal _ _ _ => 0xC5
  | .shiftClosed _ _ => 0xC6
  | .bindExpired _ _ => 0xC7
  | .calStep _ _ _ _ => 0xC8
  | .configApplied _ _ _ _ => 0xC9
  | .bridgeLocked _ _ _ => 0xCA
  | .storeAlarm _ _ _ => 0xCB

/-- A notice's body. R204 lays out the tickets, VOIDED, SETTLED and WINDOW FINAL; the others are by logs 20 and 38 to 41
(DESIGN CHOICE). -/
def noticeBody : NoticeBody → List Byte
  | .grossTicket n t => beBytes 4 n ++ grossTicketBytes t
  | .tareTicket n t => beBytes 4 n ++ tareTicketBytes t
  | .voided d n => beBytes 4 d ++ beBytes 4 n
  | .settled n b =>
      beBytes 4 b.delivery ++ beBytes 2 b.record.grower ++ beBytes 4 n ++ beBytes 4 b.netting.net ++
        beBytes 2 b.figures.rsf ++ beBytes 4 b.figures.payable ++ beBytes 4 b.figures.juice ++
        deliveryFlags b.record b.figures.lowQuality b.fallbackUsed false
  | .windowClosed w =>
      beBytes 4 w.number ++ beBytes 1 (windowStateCode w.state) ++ beBytes 4 w.cane ++ beBytes 4 w.juice ++
        beBytes 4 w.water ++ beBytes 4 w.commanded ++ beBytes 4 w.seen ++ beBytes 4 w.missed ++
        optional 4 (beBytes 4) w.deadline ++ beBytes 4 w.successor ++ flagByte [w.deadline.isSome]
  | .windowFinal n q w =>
      beBytes 4 n ++ beBytes 4 q ++ beBytes 1 (windowStateCode w.state) ++
        optional 4 (fun x : Quality => beBytes 2 x.brix ++ beBytes 2 x.pol) w.quality ++ windowFlags w
  | .shiftClosed n b => beBytes 4 b.number ++ beBytes 1 (letterCode b.letter) ++ beBytes 4 n ++ accumulatorBytes b.acc
  | .bindExpired b x => beBytes 1 (bridgeCode b) ++ bindingBytes x
  | .calStep c s o n =>
      beBytes 1 (bridgeCode c) ++ beBytes 1 (calStepCode s) ++ beBytes 1 (calStepOutcomeCode o) ++
        optional 4 signedBytes n ++ flagByte [n.isSome]
  | .configApplied c k h m => beBytes 1 (bridgeCode c) ++ configBytes k ++ boolByte h ++ boolByte m
  | .bridgeLocked b c x =>
      beBytes 1 (bridgeCode b) ++ causeBytes c ++ optional 21 bindingBytes x ++ flagByte [x.isSome]
  | .storeAlarm s f r => beBytes 1 (storeStateCode s) ++ beBytes 4 f ++ beBytes 4 r

/-! ## Frames the part sends (R203) -/

def itemBytes : ItemRecord → List Byte
  | .grower c g => growerBytes c g
  | .delivery r => deliveryBytes r
  | .window r => windowReportBytes r

/-- A frame's bytes on the line (R203). -/
def outFrameBytes : OutFrame → List Byte
  | .reply r => frameBytes r.kind r.tag (replyBody r)
  | .notice n => frameBytes (noticeKind n.body) n.number (noticeBody n.body)
  | .item tag slot index set record =>
      frameBytes 0xD0 tag (beBytes 1 (slotCode slot) ++ beBytes 4 index ++ beBytes 1 (reportSetCode set) ++ itemBytes record)
  | .finish tag slot count cut =>
      frameBytes 0xD1 tag (beBytes 1 (slotCode slot) ++ beBytes 4 count ++ beBytes 1 (if cut then 2 else 1))

end Sys2Proof.Machine
end

