-- ==== Sys2Proof/Machine/Factory.lean ====
section
/-! DEFINITION. Factory values: what each block holds after BLANK START (R24, R29, R45, R70, R91, R117, R140, R156, R167, R185, R202). -/
namespace Sys2Proof.Machine

open Sys2Proof

/-- The clock's reading while it is unset (R183). -/
def MillTime.zeros : MillTime := ⟨0, 0, 0, 0, 0, 0⟩

/-- The same thing for every bridge. -/
def Quad.const {α : Type} (a : α) : Quad α := ⟨a, a, a, a⟩

/-- The defaults of R157. -/
def Profile.factory : Profile :=
  { tares := [3000, 8000, 12000, 16000]
    trash := [0, 10, 20, 30, 40, 60, 80, 100, 150, 200]
    target := 40000, strokes := 8, minStrokes := 4, confirm := 5, maxRunning := 120, resultTimeout := 240
    defaultBrix := 1800, defaultPol := 1500, zeroInterval := 30, urgentLimit := 3, bindLife := 10, retare := 20 }

/-- The all-zero configuration (R127). -/
def ChannelConfig.allZero : ChannelConfig := ⟨0, 0, 0, 0, 0, 0⟩

/-- A NOMINAL calibration for a capacity, with a last outcome (R133). -/
def Calibration.nominal (capacity : Nat) (outcome : CalOutcome) : Calibration :=
  { zeroCounts := 0, spanCounts := Config.nominalSpan, testMass := capacity, valid := false, outcome := outcome }

/-- A channel after BLANK START (R140); last period stable by log 4, the filtered count by log 37. -/
def Channel.factory : Channel :=
  { active := ChannelConfig.allZero, pending := none, cal := Calibration.nominal 0 .none, owed := none, session := none
    mean := [], filtered := 0, rounded := none, period := none, lastStable := false
    overrange := false, underrange := false, wireOff := false, failRun := 0, passRun := 0 }

/-- A bridge after BLANK START (R117), locked UNCONFIGURED, for the zero deadline given. -/
def Bridge.factory (zeroDeadline : Nat) : Bridge :=
  { state := .locked, present := false, zeroDue := true, zeroRequest := false, binding := none, currentZero := 0
    backlog := 0, zeroDeadline := zeroDeadline, lockCause := some .unconfigured, pendingCause := none, entry := none
    bindTimer := none, clearHold := none, overTimer := .stopped, underTimer := .stopped }

/-- An input line as it comes up: unsettled, its hold timer stopped (R154); the raw level is the wire's. -/
def Input.factory (polarity : Polarity) (filterMs : Nat) (raw : Bool) : Input :=
  { polarity := polarity, filterMs := filterMs, raw := raw, filtered := none, hold := none, steady := 0 }

/-- The field line unit after BLANK START (R142, R145, R156); every wire at its inactive level (log 4). -/
def FieldLines.factory : FieldLines :=
  { e := Quad.const (Input.factory .activeLow 50 true)
    x := Quad.const (Input.factory .activeLow 50 true)
    cp := Input.factory .activeHigh 5 false
    jp := Input.factory .activeHigh 5 false
    wp := Input.factory .activeHigh 5 false
    tr := Input.factory .activeHigh 200 false
    ss := Input.factory .activeHigh 10 false
    cpMass := 50, jpMass := 10, wpMass := 10
    entryLamp := Quad.const ⟨.off, false⟩, exitLamp := Quad.const ⟨.off, false⟩
    sc := .off, al := false, command := none }

/-- A window as it opens (R48). -/
def Window.fresh (shift : Nat) (time : MillTime) : Window :=
  { shift := shift, state := .opened, openedAt := time, closedAt := none, running := 0, deadline := none
    cane := 0, attributed := 0, folded := 0, orphan := 0, juice := 0, water := 0, commanded := 0, seen := 0, missed := 0
    quality := none, refs := 0, extended := false, thin := false, expired := false, fallback := false
    noStrokes := false, summaryWritten := false }

/-- The Sample Window Table with window 1 alone (R70). -/
def WindowTable.factory (time : MillTime) : WindowTable :=
  { records := [(1, Window.fresh 1 time)], counter := 1, pacing := 0, sumCanePol := 0, sumCaneBrix := 0, sumCane := 0 }

/-- Nine accumulators at 0 (R161). -/
def Accumulators.zeros : Accumulators :=
  let z : Acc := ⟨0, false⟩
  ⟨z, z, z, z, z, z, z, z, z⟩

/-- The shift profile unit after BLANK START (R167). -/
def ShiftUnit.factory : ShiftUnit :=
  { working := Profile.factory, shadowA := Profile.factory, shadowB := Profile.factory, lastLetter := none
    number := 1, season := 1, letter := none, start := MillTime.zeros, acc := Accumulators.zeros, owed := none }

/-- The record store after BLANK START (R185). -/
def Store.factory : Store :=
  { formatMark := true, slots := [], lastSequence := 0, exportMark := 0, badSlots := [], lastSlot := 4095, reserved := 1
    state := .normal, tickets := Quad.const none, shared := [], waiting := [], inFlight := none, lastTicket := none }

/-- The clocks after BLANK START (R185). -/
def Clock.factory : Clock := { reading := MillTime.zeros, isSet := false, ms := 0, minutes := 0 }

/-- No attention flag standing (R202). -/
def Attention.clear : Attention :=
  let z : FlagBits := ⟨false, false⟩
  ⟨z, z, z, z, z, z, z, z, z, z, z, z, z, z⟩

/-- The mill link port as it comes up, with its link settings given (R202). -/
def Link.factory (minRun maxRun : Nat) : Link :=
  { minRun := minRun, maxRun := maxRun, receiver := .hunting, input := [], replies := [], notices := []
    noticeNumber := 0, slot1 := none, slot2 := none, turn := none, sending := none, flags := Attention.clear }

end Sys2Proof.Machine
end

