-- ==== Sys2Proof/Machine/State.lean ====
section
/-! DEFINITION. The state of the part, the reasons a step could stop, and the state after reset. -/
namespace Sys2Proof.Machine

open Sys2Proof

/-- The whole part, block by block (00_scope.md, "The blocks"), and the queue of the commands that wait. -/
structure State where
  bridges : Quad Bridge
  channels : Quad Channel
  lines : FieldLines
  dt : DeliveryTable
  vehicles : Table Vehicle
  feed : List Nat
  windows : WindowTable
  growers : Table Grower
  shift : ShiftUnit
  store : Store
  clock : Clock
  link : Link
  pending : List Instr
  deriving DecidableEq, Repr

/-- Reasons for which a command stops the machine. There is NONE: the spec gives every command an effect in every
state, so no command of this model ends in a fault. -/
inductive Fault
  deriving DecidableEq, Repr

/-- Reasons for which a command has no meaning. -/
inductive Refusal
  /-- Raised only by an arm of `exec` whose command has no meaning yet; no arm raises it now. Safe: the machine stops. -/
  | notModelled (mnemonic : String)
  deriving DecidableEq, Repr

/-- The part right after reset: power applied to a blank part, so a BLANK START (R2, R185; log 3). Every bridge is
LOCKED with cause UNCONFIGURED and has sent its BRIDGE LOCKED notice (R117): the first of them is on the transmitter
and the other three wait (R193). BLANK_START, BRIDGE_LOCKED (raised four times) and CLOCK_UNSET stand, and AL is on
(R153, R202). -/
def State.reset : State :=
  let locked : BridgeNo → Byte → Notice := fun b n => ⟨n, .bridgeLocked b .unconfigured none⟩
  { bridges := Quad.const (Bridge.factory 30)
    channels := Quad.const Channel.factory
    lines := { FieldLines.factory with al := true }
    dt := { records := [], reserved := 0, counter := 0 }
    vehicles := []
    feed := []
    windows := WindowTable.factory MillTime.zeros
    growers := []
    shift := ShiftUnit.factory
    store := Store.factory
    clock := Clock.factory
    link :=
      { Link.factory 4 16 with
        noticeNumber := 4
        notices := [locked .b2 2, locked .b3 3, locked .b4 4]
        sending := some { frame := .notice (locked .b1 1), bytes := outFrameBytes (.notice (locked .b1 1)), mark := none }
        flags := { Attention.clear with
          blankStart := ⟨true, false⟩, bridgeLocked := ⟨true, true⟩, clockUnset := ⟨true, false⟩ } }
    pending := [] }

end Sys2Proof.Machine
end

