-- ==== Sys2Proof/Machine/Ops.lean ====
section
/-! DEFINITION. The named operations over the part's memory: the four things of a bridge kind, the keyed tables, exact arithmetic with its stated rounding, the calendar, and one update of each piece of State. -/
namespace Sys2Proof.Machine

open Sys2Proof

/-! ## One thing for each bridge -/

def Quad.get {α : Type} (q : Quad α) : BridgeNo → α
  | .b1 => q.q1 | .b2 => q.q2 | .b3 => q.q3 | .b4 => q.q4

def Quad.set {α : Type} (q : Quad α) (b : BridgeNo) (a : α) : Quad α :=
  match b with
  | .b1 => { q with q1 := a }
  | .b2 => { q with q2 := a }
  | .b3 => { q with q3 := a }
  | .b4 => { q with q4 := a }

/-- Bridges in ascending number. -/
def bridgeList : List BridgeNo := [.b1, .b2, .b3, .b4]

/-- Bridges and channels are numbered 1 to 4 (00_scope.md, "Numbering"). -/
def bridgeOf : Nat → Option BridgeNo
  | 1 => some .b1 | 2 => some .b2 | 3 => some .b3 | 4 => some .b4
  | _ => none

/-! ## Tables -/

/-- The canonical form: keys strictly rising. -/
abbrev Table.wf {α : Type} (t : Table α) : Prop := t.Pairwise fun a b => a.1 < b.1

/-- The record with a key. -/
def Table.find {α : Type} : Table α → Nat → Option α
  | [], _ => none
  | (k, a) :: t, n => if k = n then some a else Table.find t n

/-- Writes a record under a key, in its place. -/
def Table.put {α : Type} : Table α → Nat → α → Table α
  | [], n, a => [(n, a)]
  | (k, b) :: t, n, a =>
    if n < k then (n, a) :: (k, b) :: t else if n = k then (n, a) :: t else (k, b) :: Table.put t n a

/-- Frees the record with a key. -/
def Table.drop {α : Type} (t : Table α) (n : Nat) : Table α := t.filter fun p => p.1 ≠ n

/-- Changes the record with a key, if there is one. -/
def Table.modify {α : Type} (t : Table α) (n : Nat) (f : α → α) : Table α :=
  t.map fun p => if p.1 = n then (p.1, f p.2) else p

/-- Changes every record. -/
def Table.mapValues {α : Type} (t : Table α) (f : α → α) : Table α := t.map fun p => (p.1, f p.2)

/-- The keys, ascending. -/
def Table.keys {α : Type} (t : Table α) : List Nat := t.map (·.1)

/-- The record with the smallest key above the one given, or with the smallest key of all (R196). -/
def Table.above {α : Type} (t : Table α) (last : Option Nat) : Option (Nat × α) :=
  t.find? fun p => match last with
    | none => true
    | some k => decide (k < p.1)

/-! ## Arithmetic (R1) -/

/-- A signed quotient rounded to the nearest whole, halves away from zero (R1, R121, R122). -/
def roundAway (a b : Int) : Int :=
  let q : Int := ((2 * a.natAbs + b.natAbs) / (2 * b.natAbs) : Nat)
  if (a < 0 ∧ 0 < b) ∨ (0 < a ∧ b < 0) then -q else q

/-- An addition into a figure of 32 bits; what the figure holds when the sum does not fit is free (log 10). -/
def add32 (a b : Nat) : Nat := if a + b ≤ Config.max32 then a + b else (Config.overflow32 (a + b)).toNat

/-- An addition into a total that saturates, and whether it did (R89). -/
def addSaturating (a b : Nat) : Nat × Bool :=
  if a + b ≤ Config.max32 then (a + b, false) else (Config.max32, true)

/-- An addition into a shift accumulator (R161). -/
def Acc.plus (a : Acc) (n : Nat) : Acc :=
  if a.value + n ≤ Config.max32 then { a with value := a.value + n } else ⟨Config.max32, true⟩

/-! ## The calendar (R183) -/

def leapYear (y : Nat) : Bool := y % 4 == 0 && (y % 100 != 0 || y % 400 == 0)

def daysIn (y m : Nat) : Nat :=
  if m = 2 then (if leapYear y then 29 else 28) else if m = 4 ∨ m = 6 ∨ m = 9 ∨ m = 11 then 30 else 31

/-- The reading one second later. -/
def nextSecond (t : MillTime) : MillTime :=
  if t.second < 59 then { t with second := t.second + 1 }
  else if t.minute < 59 then { t with second := 0, minute := t.minute + 1 }
  else if t.hour < 23 then { t with second := 0, minute := 0, hour := t.hour + 1 }
  else if t.day < daysIn t.year t.month then { t with second := 0, minute := 0, hour := 0, day := t.day + 1 }
  else if t.month < 12 then { t with second := 0, minute := 0, hour := 0, day := 1, month := t.month + 1 }
  else ⟨t.year + 1, 1, 1, 0, 0, 0⟩

/-- The reading `n` seconds later. -/
def afterSeconds : Nat → MillTime → MillTime
  | 0, t => t
  | n + 1, t => afterSeconds n (nextSecond t)

/-- The readings TIME SET takes (R183). -/
def validTime (t : MillTime) : Bool :=
  decide (2000 ≤ t.year ∧ t.year ≤ 2199 ∧ 1 ≤ t.month ∧ t.month ≤ 12 ∧ 1 ≤ t.day ∧ t.day ≤ daysIn t.year t.month ∧
    t.hour ≤ 23 ∧ t.minute ≤ 59 ∧ t.second ≤ 59)

/-! ## Reading and updating State -/

def State.bridge (s : State) (b : BridgeNo) : Bridge := s.bridges.get b
def State.channel (s : State) (c : BridgeNo) : Channel := s.channels.get c
def State.delivery? (s : State) (n : Nat) : Option Delivery := s.dt.records.find n
def State.window? (s : State) (n : Nat) : Option Window := s.windows.records.find n
def State.grower? (s : State) (n : Nat) : Option Grower := Table.find s.growers n
def State.vehicle? (s : State) (n : Nat) : Option Vehicle := Table.find s.vehicles n

def State.modChannel (s : State) (c : BridgeNo) (f : Channel → Channel) : State :=
  { s with channels := s.channels.set c (f (s.channels.get c)) }

def State.modDelivery (s : State) (n : Nat) (f : Delivery → Delivery) : State :=
  { s with dt := { s.dt with records := s.dt.records.modify n f } }

def State.modWindow (s : State) (n : Nat) (f : Window → Window) : State :=
  { s with windows := { s.windows with records := s.windows.records.modify n f } }

def State.modGrower (s : State) (n : Nat) (f : Grower → Grower) : State :=
  { s with growers := Table.modify s.growers n f }

def State.modVehicle (s : State) (n : Nat) (f : Vehicle → Vehicle) : State :=
  { s with vehicles := Table.modify s.vehicles n f }

/-- Adds to the current shift's accumulators (R161). -/
def State.tally (s : State) (f : Accumulators → Accumulators) : State :=
  { s with shift := { s.shift with acc := f s.shift.acc } }

/-- The mill clock's reading (R183). -/
def State.now (s : State) : MillTime := s.clock.reading

/-- The window that is OPEN: the last one opened, whose number the window-number counter holds (R47; log 24). -/
def State.openNumber (s : State) : Nat := s.windows.counter

/-- A deadline so many minutes after the minute counter's present value. -/
def State.minutesFromNow (s : State) (n : Nat) : Nat := add32 s.clock.minutes n

/-! ## Figures of the record store (R170) -/

def State.written (s : State) : Nat := s.store.lastSequence - s.store.exportMark
def State.free (s : State) : Nat := Config.accountingCapacity - s.written

/-- Whether the store can make a reservation of `k` slots (R171). -/
def State.canReserve (s : State) (k : Nat) : Bool :=
  decide (s.store.state ≠ .failed) && decide (s.store.reserved + k ≤ s.free)

/-- Why an owner's request for `k` slots is refused, if it is (R171). -/
def State.reservationRefusal (s : State) (k : Nat) : Option ResultCode :=
  if s.store.state = .failed then some .storeFailed
  else if s.free < s.store.reserved + k then some .storeLow
  else none

/-! ## Lamps (R114, R115, R152) -/

/-- What a bridge demands of its entry and exit lamps (R114). -/
def entryDemand (b : Bridge) : LampDemand :=
  match b.state with
  | .idle => if b.zeroDue then .off else .on
  | .bound => if b.present then .off else .on
  | .arrived | .capture | .clearing => .off
  | .calibrating | .locked => .safe

def exitDemand (b : Bridge) : LampDemand :=
  match b.state with
  | .clearing => .on
  | .idle | .arrived | .bound | .capture => .off
  | .calibrating | .locked => .safe

/-- A lamp driven from a demand (R152): a HOLD lamp keeps its current value as long as the SAFE demand lasts. -/
def Lamp.drive (l : Lamp) (d : LampDemand) : Lamp :=
  match d, l.safe with
  | .on, _ => { l with on := true }
  | .off, _ => { l with on := false }
  | .safe, .off => { l with on := false }
  | .safe, .on => { l with on := true }
  | .safe, .hold => l

/-- Drives a bridge's two lamps from what the bridge demands now. -/
def State.driveLamps (s : State) (b : BridgeNo) : State :=
  { s with lines := { s.lines with
      entryLamp := s.lines.entryLamp.set b ((s.lines.entryLamp.get b).drive (entryDemand (s.bridge b)))
      exitLamp := s.lines.exitLamp.set b ((s.lines.exitLamp.get b).drive (exitDemand (s.bridge b))) } }

/-- A change of a bridge controller; its lamps follow at once (R114). -/
def State.modBridge (s : State) (b : BridgeNo) (f : Bridge → Bridge) : State :=
  State.driveLamps { s with bridges := s.bridges.set b (f (s.bridges.get b)) } b

end Sys2Proof.Machine
end

