-- ==== Sys2Proof/Machine/Flags.lean ====
section
/-! DEFINITION. Attention flags, the AL beacon and the notice queue (R153, R191, R192, R200, R206). -/
namespace Sys2Proof.Machine

open Sys2Proof

def Attention.get (a : Attention) : Flag → FlagBits
  | .bridgeLocked => a.bridgeLocked | .storeLow => a.storeLow | .storeFailed => a.storeFailed
  | .sampleExpired => a.sampleExpired | .samplerMiss => a.samplerMiss | .orphanCane => a.orphanCane
  | .restarted => a.restarted | .blankStart => a.blankStart | .frameError => a.frameError
  | .inputOverrun => a.inputOverrun | .noticeLost => a.noticeLost | .badSlot => a.badSlot
  | .clockUnset => a.clockUnset | .windowExtended => a.windowExtended

def Attention.set (a : Attention) (f : Flag) (x : FlagBits) : Attention :=
  match f with
  | .bridgeLocked => { a with bridgeLocked := x }
  | .storeLow => { a with storeLow := x }
  | .storeFailed => { a with storeFailed := x }
  | .sampleExpired => { a with sampleExpired := x }
  | .samplerMiss => { a with samplerMiss := x }
  | .orphanCane => { a with orphanCane := x }
  | .restarted => { a with restarted := x }
  | .blankStart => { a with blankStart := x }
  | .frameError => { a with frameError := x }
  | .inputOverrun => { a with inputOverrun := x }
  | .noticeLost => { a with noticeLost := x }
  | .badSlot => { a with badSlot := x }
  | .clockUnset => { a with clockUnset := x }
  | .windowExtended => { a with windowExtended := x }

/-- Raised once, a flag stands; raised again, its repeat bit is set (R200). -/
def FlagBits.raised (x : FlagBits) : FlagBits := if x.standing then { x with again := true } else { x with standing := true }

/-- Whether an alarm-class flag stands (R153, R200). -/
def Attention.alarm (a : Attention) : Bool :=
  a.bridgeLocked.standing || a.storeLow.standing || a.storeFailed.standing || a.sampleExpired.standing ||
    a.samplerMiss.standing || a.orphanCane.standing

/-- New attention flags; AL is on while an alarm-class flag stands (R153). -/
def State.setFlags (s : State) (a : Attention) : State :=
  { s with link := { s.link with flags := a }, lines := { s.lines with al := a.alarm } }

/-- An event raises a flag (R200). -/
def State.raise (s : State) (f : Flag) : State :=
  s.setFlags (s.link.flags.set f (s.link.flags.get f).raised)

/-- A notice's level: whether it is an alarm notice (R191). -/
def NoticeBody.isAlarm : NoticeBody → Bool
  | .bridgeLocked _ _ _ => true
  | .storeAlarm _ _ _ => true
  | _ => false

/-- Takes the first element with a property out of a list. -/
def takeFirst {α : Type} (p : α → Bool) : List α → Option (α × List α)
  | [] => none
  | a :: as =>
    if p a then some (a, as)
    else match takeFirst p as with
      | none => none
      | some (x, rest) => some (x, a :: rest)

/-- A notice is made (R191, R192): it takes the next number; a full queue gives up its oldest ordinary notice for an
alarm, and drops an ordinary notice, or an alarm that finds only alarms; every drop raises NOTICE_LOST. -/
def State.notify (s : State) (body : NoticeBody) : State :=
  let n := s.link.noticeNumber + 1
  let s := { s with link := { s.link with noticeNumber := n } }
  if s.link.notices.length < Config.noticeCapacity then
    { s with link := { s.link with notices := s.link.notices ++ [⟨n, body⟩] } }
  else if body.isAlarm then
    match takeFirst (fun x : Notice => !x.body.isAlarm) s.link.notices with
    | some (_, rest) => State.raise { s with link := { s.link with notices := rest ++ [(⟨n, body⟩ : Notice)] } } .noticeLost
    | none => s.raise .noticeLost
  else s.raise .noticeLost

end Sys2Proof.Machine
end

