-- ==== Sys2Proof/Machine/Store.lean ====
section
/-! DEFINITION. The record store's shared operations: reservations, store states, the write-request list, the arbiter and the start of a write (R168 to R175). -/
namespace Sys2Proof.Machine

open Sys2Proof

/-- The store judges LOW and NORMAL at a change of free less reserved (R172). -/
def State.judgeStore (s : State) : State :=
  if s.store.state = .failed then s
  else
    let next : StoreState := if s.free < s.store.reserved + Config.lowThreshold then .low else .normal
    if next = s.store.state then s
    else
      let s := { s with store := { s.store with state := next } }
      let s := s.notify (.storeAlarm next s.free s.store.reserved)
      if next = .low then s.raise .storeLow else s

/-- A reservation of `k` slots is made (R171). -/
def State.reserve (s : State) (k : Nat) : State :=
  State.judgeStore { s with store := { s.store with reserved := s.store.reserved + k } }

/-- A reservation of `k` slots is given back (R171). -/
def State.giveBack (s : State) (k : Nat) : State :=
  State.judgeStore { s with store := { s.store with reserved := s.store.reserved - k } }

/-- The store enters FAILED (R172). -/
def State.failStore (s : State) : State :=
  let s := { s with store := { s.store with state := .failed } }
  (s.notify (.storeAlarm .failed s.free s.store.reserved)).raise .storeFailed

/-- The next good slot after a slot, skipping bad ones; slot 0 follows slot 4,095 (R168). The fuel is how many bad
slots may be skipped. -/
def nextGood (bad : List Nat) : Nat → Nat → Nat
  | 0, at_ => (at_ + 1) % Config.slotCount
  | fuel + 1, at_ =>
    let n := (at_ + 1) % Config.slotCount
    if bad.contains n then nextGood bad fuel n else n

/-- The next good slot after `at_`, by the bad-slot list as it stands. -/
def Store.nextSlot (st : Store) (at_ : Nat) : Nat := nextGood st.badSlots st.badSlots.length at_

/-- The class of a request (R168's table). -/
def requestClass : Requester → Nat
  | .bridge _ => 1
  | .delivery _ => 2 | .window _ => 2
  | .shiftUnit => 3 | .channel _ => 3 | .session _ => 3

/-- The bridges in rotation, beginning after the one whose ticket was last started (R174). -/
def rotation : Option BridgeNo → List BridgeNo
  | none => [.b1, .b2, .b3, .b4]
  | some .b1 => [.b2, .b3, .b4, .b1]
  | some .b2 => [.b3, .b4, .b1, .b2]
  | some .b3 => [.b4, .b1, .b2, .b3]
  | some .b4 => [.b1, .b2, .b3, .b4]

/-- The waiting line's oldest request takes a free shared place (R173). -/
def Store.moveUp (st : Store) : Store :=
  if st.shared.length < Config.sharedPlaces then
    match st.waiting with
    | [] => st
    | r :: rest => { st with shared := st.shared ++ [r], waiting := rest }
  else st

/-- The request the arbiter chooses, and the store without it (R174). -/
def Store.choose (st : Store) : Option (WriteRequest × Store) :=
  match (rotation st.lastTicket).find? fun b => (st.tickets.get b).isSome with
  | some b =>
    match st.tickets.get b with
    | some r => some (r, { st with tickets := st.tickets.set b none, lastTicket := some b })
    | none => none
  | none =>
    match takeFirst (fun r : WriteRequest => requestClass r.requester == 2) st.shared with
    | some (r, rest) => some (r, Store.moveUp { st with shared := rest })
    | none =>
      match st.shared with
      | r :: rest => some (r, Store.moveUp { st with shared := rest })
      | [] => none

/-- The body a record carries when its write starts: a WINDOW record shows its window as it then stands (R63). -/
def State.bodyAtStart (s : State) : RecordBody → RecordBody
  | .window n w => .window n ((s.window? n).getD w)
  | b => b

/-- A write starts (R175): next good slot, next sequence number, the clock's reading, the check; the record the slot
held ceases to be held. -/
def State.beginWrite (s : State) (r : WriteRequest) : State :=
  let body := s.bodyAtStart r.body
  let slot := s.store.nextSlot s.store.lastSlot
  let bytes := recordBodyBytes body
  let record : StoredRecord :=
    { sequence := add32 s.store.lastSequence 1, kind := recordKind body, time := s.now, body := bytes, check := 0 }
  let record := { record with check := recordCheck record }
  { s with store := { s.store with
      slots := s.store.slots.drop slot
      inFlight := some { request := { r with body := body }, slot := slot, record := record, second := false } } }

/-- The port, when it is neither stopped nor writing, starts the write the arbiter chooses (R174). -/
def State.startNext (s : State) : State :=
  if s.store.state = .failed then s
  else if s.store.inFlight.isSome then s
  else
    match s.store.choose with
    | none => s
    | some (r, st) => State.beginWrite { s with store := st } r

/-- A request takes its place, or waits in the line (R173). -/
def Store.place (st : Store) (r : WriteRequest) : Store :=
  match r.requester with
  | .bridge b => { st with tickets := st.tickets.set b (some r) }
  | _ =>
    if st.shared.length < Config.sharedPlaces then { st with shared := st.shared ++ [r] }
    else { st with waiting := st.waiting ++ [r] }

/-- An owner asks for a record; its write starts at once when the port is idle (R173, R174). -/
def State.requestWrite (s : State) (requester : Requester) (body : RecordBody) : State :=
  State.startNext { s with store := s.store.place ⟨requester, body⟩ }

/-- Whether any write request waits or is in flight (R165). -/
def Store.anyRequest (st : Store) : Bool :=
  st.inFlight.isSome || st.tickets.q1.isSome || st.tickets.q2.isSome || st.tickets.q3.isSome || st.tickets.q4.isSome ||
    !st.shared.isEmpty || !st.waiting.isEmpty

/-- Whether the write in flight is a calibration session's CAL record of a channel (R138). -/
def Store.sessionWriting (st : Store) (c : BridgeNo) : Bool :=
  match st.inFlight with
  | some f => f.request.requester == .session c
  | none => false

/-- A channel withdraws its session's CAL request from the list (R138, R173). -/
def Store.withdraw (st : Store) (c : BridgeNo) : Store :=
  Store.moveUp { st with
    shared := st.shared.filter fun r => r.requester != .session c
    waiting := st.waiting.filter fun r => r.requester != .session c }

end Sys2Proof.Machine
end

