-- ==== Sys2Proof/Machine/Windows.lean ====
section
/-! DEFINITION. The Sample Window Table's shared operations: opening and closing, the close tests, the sampler, expiry, fallback quality and release (chapter 3; R149). -/
namespace Sys2Proof.Machine

open Sys2Proof

/-- An input line's filtered level in its meaning: true for active, none while unsettled (R142, R143). -/
def Input.level (i : Input) : Option Bool :=
  i.filtered.map fun high =>
    match i.polarity with
    | .activeHigh => high
    | .activeLow => !high

/-- TR reads high: an unsettled line is taken as low (R146). -/
def State.running (s : State) : Bool := s.lines.tr.level == some true

/-! ## Fallback quality and the window record (R62, R63) -/

/-- The quality that a window voided now takes (R62). -/
def State.fallback (s : State) : Quality :=
  if 0 < s.windows.sumCane then
    { brix := roundHalfUp s.windows.sumCaneBrix s.windows.sumCane
      pol := roundHalfUp s.windows.sumCanePol s.windows.sumCane }
  else { brix := s.shift.working.defaultBrix, pol := s.shift.working.defaultPol }

/-- A final window's record is asked for (R63). -/
def State.requestWindowRecord (s : State) (n : Nat) : State :=
  match s.window? n with
  | some w => s.requestWrite (.window n) (.window n w)
  | none => s

/-- A window goes VOID, with what its cause sets on it (`mark`): fallback quality and FALLBACK (R62). -/
def State.markVoid (s : State) (n : Nat) (mark : Window → Window) : State :=
  let q := s.fallback
  s.modWindow n fun w => { mark w with state := .voided, quality := some q, fallback := true }

/-- A window goes VOID and its record is asked for (R62, R63). -/
def State.voidWindow (s : State) (n : Nat) (mark : Window → Window) : State :=
  (s.markVoid n mark).requestWindowRecord n

/-! ## Opening and closing (R47 to R49, R52) -/

/-- Whether a successor can open (R48). -/
def State.canOpen (s : State) : Bool :=
  decide (s.windows.records.length < Config.windowCapacity) && decide (s.windows.counter < Config.numberLimit) &&
    s.canReserve 1

/-- A window opens in a shift, with its reservation (R47, R48). -/
def State.openWindow (s : State) (shift : Nat) : State :=
  let n := s.windows.counter + 1
  State.reserve
    { s with windows := { s.windows with
        records := s.windows.records.put n (Window.fresh shift s.now), counter := n, pacing := 0 } } 1

/-- Whether a sampler command is outstanding for a window (R149). -/
def State.commandFor (s : State) (n : Nat) : Bool :=
  match s.lines.command with
  | some c => c.window == n
  | none => false

/-- What WINDOW CLOSED carries (R49). -/
def Window.closedNotice (w : Window) (n successor : Nat) : WindowClosedNotice :=
  { number := n, state := w.state, cane := w.cane, juice := w.juice, water := w.water, commanded := w.commanded
    seen := w.seen, missed := w.missed, deadline := w.deadline, successor := successor }

/-- A close is taken (R49); the successor opens in the shift given (R48, R54). -/
def State.closeWindow (s : State) (shift : Nat) : State :=
  let n := s.openNumber
  match s.window? n with
  | none => s
  | some w =>
    let time := s.now
    let s :=
      if w.seen = 0 ∧ s.commandFor n = false then
        s.voidWindow n fun w => { w with closedAt := some time, noStrokes := true }
      else
        s.modWindow n fun w => { w with
          state := .closed, closedAt := some time, thin := decide (w.seen < s.shift.working.minStrokes)
          deadline := some (s.minutesFromNow s.shift.working.resultTimeout) }
    let s := s.openWindow shift
    let s := s.tally fun a => { a with windows := a.windows.plus 1 }
    match s.window? n with
    | some w => s.notify (.windowClosed (w.closedNotice n s.openNumber))
    | none => s

/-- A close trigger finds that no successor can open (R52). -/
def State.extendWindow (s : State) : State :=
  match s.window? s.openNumber with
  | none => s
  | some w =>
    if w.extended then s
    else (s.modWindow s.openNumber fun w => { w with extended := true }).raise .windowExtended

/-- A close is triggered (R50, R52, R54). -/
def State.triggerClose (s : State) (shift : Nat) : State :=
  if s.canOpen then s.closeWindow shift else s.extendWindow

/-- Whether the OPEN window is EXTENDED. -/
def State.openExtended (s : State) : Bool :=
  match s.window? s.openNumber with
  | some w => w.extended
  | none => false

/-- Whether an extended window is due to close (R52). -/
def State.closeDue (s : State) : Bool :=
  match s.window? s.openNumber with
  | some w =>
    decide (s.shift.working.target ≤ w.cane) || decide (s.shift.working.maxRunning ≤ w.running) ||
      decide (w.shift ≠ s.shift.number)
  | none => false

/-- The close retest of R52, made when the OPEN window is EXTENDED. -/
def State.closeRetest (s : State) : State :=
  if s.openExtended && s.closeDue && s.canOpen then s.closeWindow s.shift.number else s

/-- The target test after a pulse (R50); for an EXTENDED window, the close retest. -/
def State.targetTest (s : State) : State :=
  if s.openExtended then s.closeRetest
  else
    match s.window? s.openNumber with
    | some w => if s.shift.working.target ≤ w.cane then s.triggerClose s.shift.number else s
    | none => s

/-- The duration test of R51; for an EXTENDED window, the close retest. -/
def State.durationTest (s : State) : State :=
  if s.openExtended then s.closeRetest
  else
    match s.window? s.openNumber with
    | some w => if s.shift.working.maxRunning ≤ w.running then s.triggerClose s.shift.number else s
    | none => s

/-! ## The sampler (R55 to R57, R149) -/

/-- The stroke spacing (R55). -/
def State.spacing (s : State) : Nat := s.shift.working.target / s.shift.working.strokes

/-- SC at the issue of a command (R149). -/
def ScLine.issue : ScLine → ScLine
  | .off => .on Config.scPulseMs
  | .on _ => .gap Config.scGapMs
  | .gap left => .gap left

/-- The test for a due command (R55): when one is due, none is outstanding and TR is high, one issues. -/
def State.samplerTest (s : State) : State :=
  if s.spacing ≤ s.windows.pacing ∧ s.lines.command = none ∧ s.running = true then
    let n := s.openNumber
    let s := s.modWindow n fun w => { w with commanded := add32 w.commanded 1 }
    { s with
        windows := { s.windows with pacing := s.windows.pacing - s.spacing }
        lines := { s.lines with
          sc := s.lines.sc.issue, command := some ⟨n, s.shift.working.confirm * 1000⟩ } }
  else s

/-- A stroke seen, counted to its issuing window (R57). -/
def State.strokeSeen (s : State) (n : Nat) : State :=
  s.modWindow n fun w =>
    match w.state with
    | .opened => { w with seen := add32 w.seen 1 }
    | .closed =>
      let seen := add32 w.seen 1
      { w with seen := seen, thin := decide (seen < s.shift.working.minStrokes) }
    | .resulted | .voided => w

/-- A stroke missed, counted to its issuing window (R57). -/
def State.strokeMissed (s : State) (n : Nat) : State :=
  let s := s.raise .samplerMiss
  match s.window? n with
  | none => s
  | some w =>
    match w.state with
    | .opened => s.modWindow n fun w => { w with missed := add32 w.missed 1 }
    | .closed =>
      if w.seen = 0 then s.voidWindow n fun w => { w with missed := add32 w.missed 1, noStrokes := true }
      else s.modWindow n fun w => { w with missed := add32 w.missed 1 }
    | .resulted | .voided => s

/-- The outstanding command ends without a report. -/
def State.endCommand (s : State) : State := { s with lines := { s.lines with command := none } }

/-- A filtered active edge on SS (R56, R150). -/
def State.strokeEdge (s : State) : State :=
  match s.lines.command with
  | none => s
  | some c => State.samplerTest (State.strokeSeen s.endCommand c.window)

/-- The confirm timer runs out (R56, R150). -/
def State.confirmExpired (s : State) : State :=
  match s.lines.command with
  | none => s
  | some c => State.samplerTest (State.strokeMissed s.endCommand c.window)

/-! ## Juice and water (R58) -/

def State.juicePulse (s : State) (kg : Nat) : State :=
  (s.modWindow s.openNumber fun w => { w with juice := add32 w.juice kg }).tally
    fun a => { a with juice := a.juice.plus kg }

def State.waterPulse (s : State) (kg : Nat) : State :=
  (s.modWindow s.openNumber fun w => { w with water := add32 w.water kg }).tally
    fun a => { a with water := a.water.plus kg }

/-! ## Expiry and release (R60, R65) -/

/-- Whether a CLOSED window's result deadline is at or below the minute counter (R60). -/
def State.deadlinePassed (s : State) (w : Window) : Bool :=
  match w.state, w.deadline with
  | .closed, some d => decide (d ≤ s.clock.minutes)
  | _, _ => false

/-- A CLOSED window whose deadline is at or below the counter expires (R60). -/
def State.expireWindow (s : State) (n : Nat) : State :=
  match s.window? n with
  | none => s
  | some w =>
    if s.deadlinePassed w then (s.raise .sampleExpired).voidWindow n fun w => { w with expired := true } else s

/-- The expiries of a minute event, in ascending window number (R51, R60). -/
def State.expireWindows (s : State) : State := s.windows.records.keys.foldl State.expireWindow s

/-- Whether a window is final with its record written (R21, R65). -/
def Window.settled (w : Window) : Bool :=
  (w.state == .resulted || w.state == .voided) && w.summaryWritten

/-- The release test of a window, and the close retest after a release (R65). -/
def State.releaseTest (s : State) (n : Nat) : State :=
  match s.window? n with
  | none => s
  | some w =>
    if w.settled && w.refs == 0 then
      State.closeRetest { s with windows := { s.windows with records := s.windows.records.drop n } }
    else s

end Sys2Proof.Machine
end

