-- ==== Sys2Proof/Machine/Settlement.lean ====
section
/-! DEFINITION. The Settlement Unit and the settlement test: the six stages, the SETTLE record, entry into SETTLING and the posting of a grower (R21, R71 to R81, R89). -/
namespace Sys2Proof.Machine

open Sys2Proof

/-- A part with its window, as the stages read it (R73). A part's window is always in the table, since the part's
reference keeps it there (R65); its quality is present, since it is final. -/
def State.settlePart (s : State) (p : Part) : SettlePart :=
  match s.window? p.window with
  | none => { window := p.window, kg := p.kg, brix := 0, pol := 0, fallback := false, juice := 0 }
  | some w =>
    { window := p.window, kg := p.kg, brix := (w.quality.map (·.brix)).getD 0, pol := (w.quality.map (·.pol)).getD 0
      fallback := w.fallback, juice := p.kg * w.juice / w.cane }

/-- A weighted quality (R74): by the parts' masses, or the nominal part's own when they are 0. -/
def weighted (parts : List SettlePart) (f : SettlePart → Nat) : Nat :=
  let mass := (parts.map (·.kg)).sum
  if 0 < mass then roundHalfUp (parts.map fun p => p.kg * f p).sum mass else (parts.head?.map f).getD 0

/-- The six stages (R74 to R79), from the parts, the fibre and the net. -/
def settleFigures (parts : List SettlePart) (fibre net : Nat) : SettleFigures :=
  let brix := weighted parts (·.brix)
  let pol := weighted parts (·.pol)
  let factor := 1000 - fibre - 40
  let polc := roundHalfUp (pol * factor) 1000
  let brixc := roundHalfUp (brix * factor) 1000
  let deduction := roundHalfUp ((brixc - polc) * 4) 10
  let rsf := polc - deduction
  { mass := (parts.map (·.kg)).sum, brix := brix, pol := pol, factor := factor, polc := polc, brixc := brixc, rsf := rsf
    payable := net * rsf / 10000, juice := (parts.map (·.juice)).sum, lowQuality := decide (polc < deduction) }

/-- The SETTLE record's contents (R80). -/
def State.settleBody (s : State) (n : Nat) (d : Delivery) (x : Netting) : SettleBody :=
  let parts := d.parts.map s.settlePart
  { delivery := n, record := d, netting := x, parts := parts, figures := settleFigures parts d.fibre x.net
    fallbackUsed := parts.any (·.fallback) }

/-- The hand-over to the Settlement Unit: its figures, and the SETTLE record asked for (R71). -/
def State.handOver (s : State) (n : Nat) : State :=
  match s.delivery? n with
  | none => s
  | some d =>
    match d.netting with
    | none => s
    | some x => s.requestWrite (.delivery n) (.settle (s.settleBody n d x))

/-- Whether a window named by a part is final with its record written. -/
def State.partSettled (s : State) (p : Part) : Bool :=
  match s.window? p.window with
  | some w => w.settled
  | none => false

/-- The settlement conditions (R21). -/
def State.readyToSettle (s : State) (d : Delivery) : Bool :=
  d.netting.isSome && d.state == .crushed && d.parts.all s.partSettled

/-- The settlement test of a delivery (R21). -/
def State.settleTest (s : State) (n : Nat) : State :=
  match s.delivery? n with
  | none => s
  | some d =>
    if s.readyToSettle d then State.handOver (s.modDelivery n fun d => { d with state := .settling }) n else s

/-- The deliveries whose parts list names a window, ascending. -/
def State.deliveriesNaming (s : State) (w : Nat) : List Nat :=
  Table.keys (s.dt.records.filter fun p => p.2.parts.any fun q => q.window == w)

/-- The settlement tests of a window record's completion (R21, R63). -/
def State.settleTestsOf (s : State) (w : Nat) : State := (s.deliveriesNaming w).foldl State.settleTest s

/-! ## Posting (R89) -/

/-- An addition into a grower's total, which saturates (R89). -/
def Grower.post (g : Grower) (f : SettleFigures) (net sequence : Nat) : Grower :=
  let n := addSaturating g.netTotal net
  let p := addSaturating g.payableTotal f.payable
  let j := addSaturating g.juiceTotal f.juice
  { g with
      settled := g.settled + 1, netTotal := n.1, payableTotal := p.1, juiceTotal := j.1, openCount := g.openCount - 1
      lastSettled := some sequence, saturated := g.saturated || n.2 || p.2 || j.2 }

/-- One reference fewer on a window (R64). -/
def State.dropReference (s : State) (n : Nat) : State := s.modWindow n fun w => { w with refs := w.refs - 1 }

/-- The windows of a parts list, in list order, which is ascending (R4). -/
def partWindows (parts : List Part) : List Nat := parts.map (·.window)

/-- The requester's step when a SETTLE record completes (R81, steps 2 to 6). -/
def State.settleComplete (s : State) (sequence : Nat) (b : SettleBody) : State :=
  let s := s.modGrower b.record.grower fun g => g.post b.figures b.netting.net sequence
  let s := s.tally fun a => { a with
    net := a.net.plus b.netting.net, payable := a.payable.plus b.figures.payable, deliveries := a.deliveries.plus 1 }
  let s := (partWindows b.record.parts).foldl State.dropReference s
  let s := { s with dt := { s.dt with records := s.dt.records.drop b.delivery } }
  let s := (partWindows b.record.parts).foldl State.releaseTest s
  s.notify (.settled sequence b)

end Sys2Proof.Machine
end

