-- ==== Sys2Proof/Machine/Feed.lean ====
section
/-! DEFINITION. The Feed Queue: the booking of a cane pulse (R34 to R37), and a delivery's exit by its netting (R15, R39). -/
namespace Sys2Proof.Machine

open Sys2Proof

/-- Which case of R36 a credit takes. -/
inductive CreditCase
  | last | appended | folded
  deriving DecidableEq, Repr

/-- The case of R36, and the parts list with the debit credited under a window. -/
def creditParts (parts : List Part) (w kg : Nat) : CreditCase × List Part :=
  match parts.getLast? with
  | none => (.appended, [⟨w, kg⟩])
  | some p =>
    if p.window = w then (.last, parts.dropLast ++ [⟨w, p.kg + kg⟩])
    else if parts.length < Config.partsCapacity then (.appended, parts ++ [⟨w, kg⟩])
    else (.folded, parts.dropLast ++ [⟨p.window, p.kg + kg⟩])

/-- What the window receives in a case of R36. -/
def Window.credited (v : Window) (kg : Nat) : CreditCase → Window
  | .last => { v with attributed := add32 v.attributed kg }
  | .appended => { v with attributed := add32 v.attributed kg, refs := v.refs + 1 }
  | .folded => { v with folded := add32 v.folded kg }

/-- A debit of a delivery, credited under a window (R35, R36). -/
def State.debit (s : State) (n : Nat) (d : Delivery) (w kg : Nat) : State :=
  let c := creditParts d.parts w kg
  (s.modDelivery n fun d => { d with
      crushed := d.crushed + kg, parts := c.2, folded := d.folded || c.1 == .folded }).modWindow w
    fun v => v.credited kg c.1

/-- A delivery leaves the Feed Queue and becomes CRUSHED (R35, R39). -/
def State.leaveFeed (s : State) (n : Nat) : State :=
  State.modDelivery { s with feed := s.feed.filter fun m => m ≠ n } n fun d => { d with state := .crushed }

/-- The debits of a pulse across the entries given, head first: the kilograms left when the list is empty, and the
state (R35). -/
def State.debits (w : Nat) : List Nat → Nat → State → Nat × State
  | [], left, s => (left, s)
  | n :: rest, left, s =>
    if left = 0 then (0, s)
    else
      match s.delivery? n with
      | none => State.debits w rest left s
      | some d =>
        let remainder := d.queueMass - d.crushed
        if left < remainder then (0, s.debit n d w left)
        else State.debits w rest (left - remainder) (State.settleTest ((s.debit n d w remainder).leaveFeed n) n)

/-- The leftover of a pulse is orphan cane (R37). -/
def State.orphan (s : State) (w kg : Nat) : State :=
  if kg = 0 then s
  else
    State.raise ((s.modWindow w fun v => { v with orphan := add32 v.orphan kg }).tally
      fun a => { a with orphan := a.orphan.plus kg }) .orphanCane

/-- A cane pulse of a mass is booked whole (R34), and the window's own work follows (R50, R55). -/
def State.canePulse (s : State) (kg : Nat) : State :=
  let w := s.openNumber
  let s := (s.modWindow w fun v => { v with cane := add32 v.cane kg }).tally fun a => { a with cane := a.cane.plus kg }
  let r := State.debits w s.feed kg s
  let s := State.orphan r.2 w r.1
  let s := { s with windows := { s.windows with pacing := add32 s.windows.pacing kg } }
  s.samplerTest.targetTest

/-- The effect of netting on a delivery (R15, R39), when its tare, trash and net are placed on it. -/
def State.net (s : State) (n : Nat) (x : Netting) : State :=
  let s := s.modDelivery n fun d => { d with netting := some x, tareRejected := false }
  match s.delivery? n with
  | none => s
  | some d =>
    match d.state with
    | .queued =>
      let s := s.modDelivery n fun d => { d with queueMass := x.net }
      if d.crushed < x.net then s
      else (s.modDelivery n fun d => { d with overcrush := some (d.crushed - x.net) }).leaveFeed n
    | .crushed =>
      if d.crushed < x.net then s else s.modDelivery n fun d => { d with overcrush := some (d.crushed - x.net) }
    | .openGross | .settling | .voiding => s

end Sys2Proof.Machine
end

