-- ==== Sys2Proof/Machine/Deliveries.lean ====
section
/-! DEFINITION. The Delivery Table and the Vehicle Tare Table: the figures of a netting, the tickets of a capture, the completions of their records and the requests that name a delivery or a vehicle (chapter 1). -/
namespace Sys2Proof.Machine

open Sys2Proof

/-- How an owner decides a request (R189): it refuses it with a result code, or takes it with the state that
follows and what the OK reply carries. -/
inductive Decision
  | refuse (code : ResultCode)
  | take (s : State) (content : ReplyContent)

/-- A delivery or window number that no season gives out (R13, R16, R53). -/
def numberBad (n : Nat) : Bool := decide (n = 0) || decide (Config.numberLimit < n)

/-! ## Figures (R10, R17) -/

/-- The working profile's trash permille for an inspection code (R157). -/
def State.permille (s : State) (inspection : Nat) : Nat := s.shift.working.trash.getD inspection 0

/-- The trash of a gross and a tare (R10). -/
def trashOf (gross tare permille : Nat) : Nat := (gross - tare) * permille / 1000

/-- The net of a gross and a tare (R10). -/
def netOf (gross tare permille : Nat) : Nat := (gross - tare) - trashOf gross tare permille

/-- The vehicle's stored tare, if it is registered and has one. -/
def State.storedTare (s : State) (vehicle : Nat) : Option StoredTare :=
  match s.vehicle? vehicle with
  | some v => v.stored
  | none => none

/-- The tare an estimate is made with (R17). -/
def State.estimateTare (s : State) (d : Delivery) : Nat :=
  match s.storedTare d.vehicle with
  | some t => t.kg
  | none => s.shift.working.tares.getD d.cls 0

/-- The queue mass that a TIP gives a delivery (R17). -/
def State.tipMass (s : State) (d : Delivery) : Nat :=
  match d.netting with
  | some x => x.net
  | none =>
    let tare := s.estimateTare d
    if tare < d.gross.kg then netOf d.gross.kg tare (s.permille d.inspection) else 0

/-- The bridge whose tare binding names a delivery (R23, R95). -/
def State.tareBridge (s : State) (n : Nat) : Option BridgeNo :=
  bridgeList.find? fun b =>
    match (s.bridge b).binding with
    | some x => x.pass == .tare n
    | none => false

/-! ## Captures (R8, R11, R12) -/

/-- What the Vehicle Tare Table answers a gross capture that wishes the stored tare (R8). -/
def State.storedStatus (s : State) (vehicle inspection gross : Nat) : StoredStatus :=
  match s.vehicle? vehicle with
  | none => .unavailable
  | some v =>
    match v.stored with
    | none => .unavailable
    | some t =>
      if 0 < v.uses ∧ t.kg < gross then
        .applied t.kg (trashOf gross t.kg (s.permille inspection)) (netOf gross t.kg (s.permille inspection))
      else .unavailable

/-- Whether a stored tare was applied. -/
def StoredStatus.isApplied : StoredStatus → Bool
  | .applied _ _ _ => true
  | _ => false

/-- A gross capture fixes its ticket: the next delivery number, the grower's fibre, the stored tare when wished and
available, whose vehicle then has one use fewer (R7, R8). -/
def State.grossCapture (s : State) (b : BridgeNo) (vehicle cls grower inspection : Nat) (wish : Bool) (kg : Nat) :
    State × GrossTicket :=
  let n := s.dt.counter + 1
  let stored : StoredStatus := if wish then s.storedStatus vehicle inspection kg else .notAsked
  let fibre := ((s.grower? grower).map (·.fibre)).getD 0
  let t : GrossTicket :=
    { delivery := n, grower := grower, vehicle := vehicle, cls := cls, inspection := inspection, bridge := b
      fibre := fibre, gross := kg, time := s.now, stored := stored }
  let s := { s with dt := { s.dt with counter := n } }
  (if stored.isApplied then s.modVehicle vehicle fun v => { v with uses := v.uses - 1 } else s, t)

/-- A tare capture fixes its ticket from the delivery it nets (R11, R12). -/
def State.tareCapture (s : State) (b : BridgeNo) (n kg : Nat) : Option TareTicket :=
  (s.delivery? n).map fun d =>
    { delivery := n, vehicle := d.vehicle, bridge := some b, gross := d.gross.kg, tare := kg
      status :=
        if kg < d.gross.kg then
          .accepted (trashOf d.gross.kg kg (s.permille d.inspection)) (netOf d.gross.kg kg (s.permille d.inspection))
        else .rejected
      time := s.now }

/-! ## Completions (R9, R11, R12, R14, R20) -/

/-- The record a gross ticket creates (R9). -/
def GrossTicket.record (t : GrossTicket) (sequence : Nat) : Delivery :=
  { grower := t.grower, vehicle := t.vehicle, cls := t.cls, inspection := t.inspection, fibre := t.fibre
    gross := { kg := t.gross, bridge := t.bridge, sequence := sequence, time := t.time }
    netting :=
      match t.stored with
      | .applied tare trash net => some { tare := tare, source := .stored, sequence := sequence, trash := trash, net := net }
      | _ => none
    pendingNet := none, queueMass := 0, crushed := 0, parts := [], state := .openGross, estimated := false
    overcrush := none, folded := false, nominalPart := false, tareRejected := false }

/-- The Delivery Table's step at a gross ticket's completion (R9). -/
def State.grossComplete (s : State) (sequence : Nat) (t : GrossTicket) : State :=
  State.notify
    { s with dt := { s.dt with
        records := s.dt.records.put t.delivery (t.record sequence), reserved := s.dt.reserved - 1 } }
    (.grossTicket sequence t)

/-- The Delivery Table's step at a weighed tare ticket's completion (R11, R12). The stored tare carries the ticket's
mill time, which is the capture's (DESIGN CHOICE, log 36). -/
def State.tareComplete (s : State) (sequence : Nat) (t : TareTicket) : State :=
  match t.status with
  | .rejected =>
    (s.modDelivery t.delivery fun d => { d with tareRejected := true }).notify (.tareTicket sequence t)
  | .accepted trash net =>
    let s := s.modVehicle t.vehicle fun v => { v with
      stored := some { kg := t.tare, time := t.time, sequence := sequence }, uses := s.shift.working.retare }
    let s := s.net t.delivery { tare := t.tare, source := .weighed, sequence := sequence, trash := trash, net := net }
    (s.settleTest t.delivery).notify (.tareTicket sequence t)

/-- The Delivery Table's step at the completion of a NET FROM STORED's record (R14). -/
def State.storedComplete (s : State) (sequence : Nat) (t : TareTicket) : State :=
  match t.status with
  | .rejected => s
  | .accepted trash net =>
    let s := s.modDelivery t.delivery fun d => { d with pendingNet := none }
    let s := s.net t.delivery { tare := t.tare, source := .stored, sequence := sequence, trash := trash, net := net }
    (s.settleTest t.delivery).notify (.tareTicket sequence t)

/-- The Delivery Table's step at a VOID record's completion (R20). -/
def State.voidComplete (s : State) (sequence : Nat) (v : VoidBody) : State :=
  let s := { s with dt := { s.dt with records := s.dt.records.drop v.delivery } }
  (s.modGrower v.grower fun g => { g with openCount := g.openCount - 1 }).notify (.voided v.delivery sequence)

/-! ## Asking for the records a delivery needs (R13, R19) -/

/-- The TARE record of a stored netting pending (R13, R204). -/
def Delivery.storedTicket (d : Delivery) (n : Nat) (p : PendingNetting) : TareTicket :=
  { delivery := n, vehicle := d.vehicle, bridge := none, gross := d.gross.kg, tare := p.tare
    status := .accepted p.trash p.net, time := p.time }

/-- The body of a VOID record (R205). -/
def Delivery.voidBody (d : Delivery) (n : Nat) : VoidBody :=
  { delivery := n, grower := d.grower, vehicle := d.vehicle, grossSequence := d.gross.sequence, gross := d.gross.kg }

/-! ## Requests that name a delivery -/

/-- TIP (R16, R18). -/
def decideTip (n : Nat) (s : State) : Decision :=
  if numberBad n then .refuse .badField
  else
    match s.delivery? n with
    | none => .refuse .notFound
    | some d =>
      if d.state ≠ .openGross then .refuse .wrongState
      else
        let mass := s.tipMass d
        let estimated := d.netting.isNone
        if 0 < mass then
          if Config.feedCapacity ≤ s.feed.length then .refuse .full
          else
            let s := s.modDelivery n fun d => { d with queueMass := mass, estimated := estimated, state := .queued }
            .take { s with feed := s.feed ++ [n] } (.tipped mass estimated)
        else
          let w := s.openNumber
          let s := s.modDelivery n fun d => { d with
            queueMass := 0, estimated := estimated, state := .crushed, parts := d.parts ++ [⟨w, 0⟩], nominalPart := true }
          let s := s.modWindow w fun v => { v with refs := v.refs + 1 }
          .take (s.settleTest n) (.tipped 0 estimated)

/-- VOID (R19). -/
def decideVoid (n : Nat) (s : State) : Decision :=
  if numberBad n then .refuse .badField
  else
    match s.delivery? n with
    | none => .refuse .notFound
    | some d =>
      if d.state ≠ .openGross then .refuse .wrongState
      else if (s.tareBridge n).isSome || d.pendingNet.isSome then .refuse .inUse
      else
        let s := s.modDelivery n fun d => { d with state := .voiding }
        .take (s.requestWrite (.delivery n) (.void (d.voidBody n))) .none

/-- NET FROM STORED (R13). -/
def decideNetFromStored (n : Nat) (s : State) : Decision :=
  if numberBad n then .refuse .badField
  else
    match s.delivery? n with
    | none => .refuse .notFound
    | some d =>
      if d.state = .settling ∨ d.state = .voiding ∨ d.netting.isSome ∨ d.pendingNet.isSome then .refuse .wrongState
      else if (s.tareBridge n).isSome then .refuse .inUse
      else
        match s.storedTare d.vehicle with
        | none => .refuse .notFound
        | some t =>
          if d.gross.kg ≤ t.kg then .refuse .mismatch
          else
            match s.reservationRefusal 1 with
            | some code => .refuse code
            | none =>
              let p : PendingNetting :=
                { tare := t.kg, trash := trashOf d.gross.kg t.kg (s.permille d.inspection)
                  net := netOf d.gross.kg t.kg (s.permille d.inspection), time := s.now }
              let s := (s.reserve 1).modDelivery n fun d => { d with pendingNet := some p }
              .take (s.requestWrite (.delivery n) (.tare (d.storedTicket n p))) .none

/-- What DELIVERY QUERY and a DELIVERIES item show (R23). -/
def State.deliveryReport (s : State) (n : Nat) (d : Delivery) : DeliveryReport :=
  { number := n, record := d, remainder := if d.state = .queued then d.queueMass - d.crushed else 0
    tareBridge := s.tareBridge n, storedPending := d.pendingNet.isSome }

/-- DELIVERY QUERY (R23). -/
def decideDeliveryQuery (n : Nat) (s : State) : Decision :=
  if numberBad n then .refuse .badField
  else
    match s.delivery? n with
    | none => .refuse .notFound
    | some d => .take s (.delivery (s.deliveryReport n d))

/-! ## Vehicles -/

/-- Whether any binding names a vehicle (R27). -/
def State.bindingNamesVehicle (s : State) (code : Nat) : Bool :=
  bridgeList.any fun b =>
    match (s.bridge b).binding with
    | some x => x.vehicle == code
    | none => false

/-- VEHICLE SET (R26). -/
def decideVehicleSet (code cls : Nat) (s : State) : Decision :=
  if code = 0 ∨ 3 < cls then .refuse .badField
  else
    match s.vehicle? code with
    | some v =>
      let v := { v with cls := cls }
      .take { s with vehicles := Table.put s.vehicles code v } (.vehicle code v)
    | none =>
      if Config.vehicleCapacity ≤ s.vehicles.length then .refuse .full
      else
        let v : Vehicle := { cls := cls, stored := none, uses := 0 }
        .take { s with vehicles := Table.put s.vehicles code v } (.vehicle code v)

/-- VEHICLE DROP (R27). -/
def decideVehicleDrop (code : Nat) (s : State) : Decision :=
  if code = 0 then .refuse .badField
  else if (s.vehicle? code).isNone then .refuse .notFound
  else if (s.dt.records.any fun p => p.2.vehicle == code) || s.bindingNamesVehicle code then .refuse .inUse
  else .take { s with vehicles := Table.drop s.vehicles code } .none

end Sys2Proof.Machine
end

