-- ==== Sys2Proof/Machine/Growers.lean ====
section
/-! DEFINITION. The Grower Account Table's requests (R85 to R87). -/
namespace Sys2Proof.Machine

open Sys2Proof

/-- A grower code outside 1 to 9,999. -/
def growerBad (code : Nat) : Bool := decide (code = 0) || decide (9999 < code)

/-- A new grower record (R85). -/
def Grower.fresh (fibre : Nat) : Grower :=
  { fibre := fibre, settled := 0, netTotal := 0, payableTotal := 0, juiceTotal := 0, openCount := 0, lastSettled := none
    saturated := false }

/-- GROWER SET (R85). -/
def decideGrowerSet (code fibre : Nat) (s : State) : Decision :=
  if growerBad code ∨ fibre < 80 ∨ 250 < fibre then .refuse .badField
  else
    match s.grower? code with
    | some g =>
      let g := { g with fibre := fibre }
      .take { s with growers := Table.put s.growers code g } (.grower code g)
    | none =>
      if Config.growerCapacity ≤ s.growers.length then .refuse .full
      else .take { s with growers := Table.put s.growers code (Grower.fresh fibre) } (.grower code (Grower.fresh fibre))

/-- GROWER DROP (R86). -/
def decideGrowerDrop (code : Nat) (s : State) : Decision :=
  if growerBad code then .refuse .badField
  else
    match s.grower? code with
    | none => .refuse .notFound
    | some g =>
      if 0 < g.openCount ∨ 0 < g.settled then .refuse .inUse
      else .take { s with growers := Table.drop s.growers code } .none

/-- GROWER QUERY (R87). -/
def decideGrowerQuery (code : Nat) (s : State) : Decision :=
  if growerBad code then .refuse .badField
  else
    match s.grower? code with
    | none => .refuse .notFound
    | some g => .take s (.grower code g)

end Sys2Proof.Machine
end

