-- ==== Sys2Proof/Machine/Samples.lean ====
section
/-! DEFINITION. The requests that name a sample window, and what a window's query shows (R53, R59, R61, R67). -/
namespace Sys2Proof.Machine

open Sys2Proof

/-- SAMPLE CLOSE (R53). -/
def decideSampleClose (n : Nat) (s : State) : Decision :=
  if numberBad n then .refuse .badField
  else if s.windows.counter < n then .refuse .notFound
  else if n ≠ s.openNumber then .refuse .wrongState
  else if s.store.state = .failed then .refuse .storeFailed
  else if s.canOpen then
    let s := s.closeWindow s.shift.number
    .take s (.successor s.openNumber)
  else .refuse .full

/-- SAMPLE RESULT (R59). -/
def decideSampleResult (n brix pol : Nat) (s : State) : Decision :=
  if numberBad n ∨ brix < 100 ∨ 3000 < brix ∨ brix < pol then .refuse .badField
  else if s.windows.counter < n then .refuse .notFound
  else
    match s.window? n with
    | none => .refuse .tooLate
    | some w =>
      match w.state with
      | .opened => .refuse .wrongState
      | .resulted => .refuse .already
      | .voided => .refuse .tooLate
      | .closed =>
        let s := s.modWindow n fun w => { w with state := .resulted, quality := some ⟨brix, pol⟩ }
        let s := { s with windows := { s.windows with
          sumCanePol := s.windows.sumCanePol + w.cane * pol
          sumCaneBrix := s.windows.sumCaneBrix + w.cane * brix
          sumCane := s.windows.sumCane + w.cane } }
        .take (s.requestWindowRecord n) .none

/-- SAMPLE VOID (R61). -/
def decideSampleVoid (n : Nat) (s : State) : Decision :=
  if numberBad n then .refuse .badField
  else if s.windows.counter < n then .refuse .notFound
  else
    match s.window? n with
    | none => .refuse .tooLate
    | some w =>
      match w.state with
      | .opened => .refuse .wrongState
      | .resulted => .refuse .wrongState
      | .voided => .refuse .tooLate
      | .closed => .take (s.voidWindow n id) (.quality s.fallback)

/-- Minutes remaining until a CLOSED window's deadline, 0 when due at the next advance (R67; log 19). -/
def State.minutesLeft (s : State) (w : Window) : Option Nat :=
  match w.state with
  | .closed => w.deadline.map fun d => d - (s.clock.minutes + 1)
  | .opened | .resulted | .voided => none

/-- What WINDOW QUERY and a WINDOWS item show (R66, R67). -/
def State.windowReport (s : State) (n : Nat) (w : Window) : WindowReport :=
  { number := n, record := w, juiceYield := yieldOf w.juice w.cane, waterPercent := yieldOf w.water w.cane
    noCane := w.cane == 0, minutesLeft := s.minutesLeft w
    sampler :=
      if w.state = .opened then
        some { pacing := s.windows.pacing, spacing := s.spacing, outstanding := s.lines.command.map (·.window) }
      else none }

/-- WINDOW QUERY (R67). -/
def decideWindowQuery (n : Nat) (s : State) : Decision :=
  if numberBad n then .refuse .badField
  else
    match s.window? n with
    | none => .refuse .notFound
    | some w => .take s (.window (s.windowReport n w))

end Sys2Proof.Machine
end

