-- ==== Sys2Proof/Machine/Bridges.lean ====
section
/-! DEFINITION. The bridge controllers: presence, transitions, bindings, captures, zero checks, lock conditions and the requests that name a bridge; with them the application of a configuration, which a bridge's entry to IDLE may bring (chapter 5, R131). -/
namespace Sys2Proof.Machine

open Sys2Proof

/-! ## What a channel's reading does to its bridge -/

/-- A stability period in progress is ended by an event, not stable (R123). -/
def Channel.endPeriod (c : Channel) : Channel :=
  match c.period with
  | some _ => { c with period := none, lastStable := false }
  | none => c

def State.endPeriod (s : State) (b : BridgeNo) : State := s.modChannel b Channel.endPeriod

/-- The lock conditions that stand (R108): ZERO_BAND is not a standing one. -/
def State.stands (s : State) (b : BridgeNo) : LockCause → Bool
  | .unconfigured => (s.channel b).active == ChannelConfig.allZero
  | .calInvalid => !(s.channel b).cal.valid
  | .wireOff => (s.channel b).wireOff
  | .overrange => (s.bridge b).overTimer == .ranOut
  | .underrange => (s.bridge b).underTimer == .ranOut
  | .zeroBand => false

/-- The standing conditions in the order of R110. -/
def standingOrder : List LockCause := [.unconfigured, .calInvalid, .wireOff, .overrange, .underrange]

/-- The first standing condition (R110, R118). -/
def State.firstStanding (s : State) (b : BridgeNo) : Option LockCause := standingOrder.find? (s.stands b)

/-- A condition ceases: a LOCKED bridge whose cause it is takes the first other standing condition, if any (R110). -/
def State.ceased (s : State) (b : BridgeNo) (cause : LockCause) : State :=
  if (s.bridge b).state = .locked ∧ (s.bridge b).lockCause = some cause then
    match s.firstStanding b with
    | some next => s.modBridge b fun x => { x with lockCause := some next }
    | none => s
  else s

/-- The persistence timer of a range flag (R108). -/
def Bridge.timer (x : Bridge) : RangeKind → Persistence
  | .over => x.overTimer
  | .under => x.underTimer

def Bridge.setTimer (x : Bridge) (k : RangeKind) (t : Persistence) : Bridge :=
  match k with
  | .over => { x with overTimer := t }
  | .under => { x with underTimer := t }

/-- The lock condition of a range flag (R108). -/
def rangeCause : RangeKind → LockCause
  | .over => .overrange
  | .under => .underrange

/-- A range flag of a channel (R125). -/
def Channel.rangeFlag (c : Channel) : RangeKind → Bool
  | .over => c.overrange
  | .under => c.underrange

def Channel.setRangeFlag (c : Channel) (k : RangeKind) (v : Bool) : Channel :=
  match k with
  | .over => { c with overrange := v }
  | .under => { c with underrange := v }

/-- A persistence timer as it starts on a flag (R108, R111). -/
def freshTimer (flag : Bool) : Persistence := if flag then .running Config.persistenceMs else .stopped

/-- A range flag takes a value: raised, its timer starts, but not while CALIBRATING; cleared, its timer stops, and its
condition ceases if it had arisen, that is if the timer had run out (R108, R110, R125). -/
def State.setRange (s : State) (b : BridgeNo) (k : RangeKind) (v : Bool) : State :=
  if (s.channel b).rangeFlag k = v then s
  else
    let s := s.modChannel b fun c => c.setRangeFlag k v
    if v then
      if (s.bridge b).state = .calibrating then s else s.modBridge b fun x => x.setTimer k (freshTimer true)
    else
      let cleared := s.modBridge b fun x => x.setTimer k .stopped
      if (s.bridge b).timer k = .ranOut then cleared.ceased b (rangeCause k) else cleared

/-- Both persistence timers start afresh on the flags as they stand (R111, R112). -/
def State.restartTimers (s : State) (b : BridgeNo) : State :=
  s.modBridge b fun x => { x with
    overTimer := freshTimer (s.channel b).overrange, underTimer := freshTimer (s.channel b).underrange }

/-! ## Entries to LOCKED -/

/-- An entry to LOCKED (R109): with the binding that the entry discarded, if it discarded one. -/
def State.enterLocked (s : State) (b : BridgeNo) (cause : LockCause) (discarded : Option Binding) : State :=
  let s := s.modBridge b fun x => { x with
    state := .locked, lockCause := some cause, pendingCause := none, entry := none, zeroRequest := false, bindTimer := none }
  (s.notify (.bridgeLocked b cause discarded)).raise .bridgeLocked

/-- A binding is discarded: it gives back everything it took (R99). -/
def State.discardBinding (s : State) (b : BridgeNo) : State :=
  match (s.bridge b).binding with
  | none => s
  | some x =>
    let s := s.modBridge b fun y => { y with binding := none, bindTimer := none }
    match x.pass with
    | .gross _ grower _ _ =>
      let s := s.giveBack 2
      let s := { s with dt := { s.dt with reserved := s.dt.reserved - 1 } }
      s.modGrower grower fun g => { g with openCount := g.openCount - 1 }
    | .tare _ => s.giveBack 1

/-- A lock condition arises (R109). WIRE_OFF while CALIBRATING is taken by the session (R112). -/
def State.arise (s : State) (b : BridgeNo) (cause : LockCause) : State :=
  match (s.bridge b).state with
  | .idle | .arrived | .clearing => s.enterLocked b cause none
  | .bound => (s.discardBinding b).enterLocked b cause (s.bridge b).binding
  | .capture => s.modBridge b fun x => { x with pendingCause := some (x.pendingCause.getD cause) }
  | .calibrating | .locked => s

/-- The bridge's current zero takes a value; a period in progress ends (R106, R123). -/
def State.setZero (s : State) (b : BridgeNo) (zero : Int) : State :=
  (s.modBridge b fun x => { x with currentZero := zero }).endPeriod b

/-- The running mean is emptied: no current reading, so no range flag (R120, R121, R125). The filtered count stands
as it was until the mean has filled and forms one (DESIGN CHOICE, log 37). -/
def State.emptyMean (s : State) (b : BridgeNo) : State :=
  let s := (s.modChannel b fun c => { c with mean := [], rounded := none }).endPeriod b
  (s.setRange b .over false).setRange b .under false

/-! ## Presence (R93, R94, R148) -/

def State.entryBeam (s : State) (b : BridgeNo) : Option Bool := (s.lines.e.get b).level
def State.exitBeam (s : State) (b : BridgeNo) : Option Bool := (s.lines.x.get b).level

/-- The empty threshold, in kg (R93, R127). -/
def ChannelConfig.emptyKg (c : ChannelConfig) : Int := (c.threshold * c.division : Nat)

/-- Whether a vehicle is judged present: by the reading, if there is a current one, or by a broken beam (R93, R120). -/
def State.occupied (s : State) (b : BridgeNo) : Bool :=
  (match (s.channel b).rounded with
    | some r => decide ((s.channel b).active.emptyKg ≤ r)
    | none => false) ||
  s.entryBeam b == some true || s.exitBeam b == some true

/-- Whether the deck is judged clear (R93, R148): both beams at their clear level and no reading at the threshold. -/
def State.deckClear (s : State) (b : BridgeNo) : Bool :=
  !s.occupied b && s.entryBeam b == some false && s.exitBeam b == some false

/-- PRESENT is set or the clear hold starts (R93, R94). -/
def State.judgePresence (s : State) (b : BridgeNo) : State :=
  if s.occupied b then
    if (s.bridge b).present then s.modBridge b fun x => { x with clearHold := none }
    else
      (s.modBridge b fun x => { x with
        present := true, clearHold := none, state := if x.state = .idle then .arrived else x.state }).endPeriod b
  else if s.deckClear b && (s.bridge b).present && (s.bridge b).clearHold.isNone then
    s.modBridge b fun x => { x with clearHold := some Config.clearHoldMs }
  else s

/-! ## The application of a configuration, and entries to IDLE -/

/-- A pending configuration is applied (R131); `wasHeld` tells whether it had been held. Presence, which is judged
continuously (R93), is then judged by the new threshold and the reading left (log 27). -/
def State.applyConfig (s : State) (b : BridgeNo) (wasHeld : Bool) : State :=
  match (s.channel b).pending with
  | none => s
  | some p =>
    let old := (s.channel b).active
    let new := p.config
    let nominal := decide (old.capacity ≠ new.capacity ∨ old.division ≠ new.division)
    let s := s.modChannel b fun c => { c with
      active := new, pending := none, cal := if nominal then Calibration.nominal new.capacity c.cal.outcome else c.cal }
    let s := if nominal then s.setZero b 0 else s
    let s := if old.filter ≠ new.filter ∨ old = ChannelConfig.allZero then s.emptyMean b else s
    let s := s.endPeriod b
    let body : ConfigBody := { channel := b, madeNominal := nominal, new := new, replaced := old }
    let s := s.modChannel b fun c => { c with owed := some (.config body) }
    let s := s.requestWrite (.channel b) (.config body)
    let s := s.notify (.configApplied b new wasHeld nominal)
    let s := if old = ChannelConfig.allZero then s.ceased b .unconfigured else s
    let s := if (s.bridge b).state = .idle ∧ (s.channel b).cal.valid = false then s.enterLocked b .calInvalid none else s
    s.judgePresence b

/-- A bridge is sent to IDLE, or to ARRIVED while PRESENT is set (R94); at an entry to IDLE a held configuration is
applied (R113). -/
def State.goIdle (s : State) (b : BridgeNo) : State :=
  let s := s.modBridge b fun x => { x with
    state := if x.present then .arrived else .idle, lockCause := none, pendingCause := none, entry := none }
  if (s.bridge b).present then s
  else
    match (s.channel b).pending with
    | some p => if p.held then s.applyConfig b true else s
    | none => s

/-! ## Absence (R93, R94) -/

/-- The clear hold runs out: the vehicle is judged absent (R93, R94). -/
def State.judgeAbsent (s : State) (b : BridgeNo) : State :=
  let s := (s.modBridge b fun x => { x with present := false, clearHold := none }).endPeriod b
  match (s.bridge b).state with
  | .arrived | .clearing => s.goIdle b
  | .idle | .bound | .capture | .calibrating | .locked => s

/-! ## Zero tracking (R104 to R106) -/

/-- The zero deadline is re-armed (R104). -/
def State.rearmZero (s : State) (b : BridgeNo) : State :=
  s.modBridge b fun x => { x with zeroDeadline := s.minutesFromNow s.shift.working.zeroInterval }

/-- A zero is taken, or given by a commit: backlog 0, ZERO_DUE clear, deadline re-armed (R106, R112). -/
def State.takeZero (s : State) (b : BridgeNo) (zero : Int) : State :=
  ((s.setZero b zero).modBridge b fun x => { x with backlog := 0, zeroDue := false, zeroRequest := false }).rearmZero b

/-- The bridge's comparison of the minute counter with its zero deadline (R104, R105). -/
def State.zeroMinute (s : State) (b : BridgeNo) : State :=
  if (s.bridge b).zeroDeadline ≤ s.clock.minutes then
    State.rearmZero
      (if (s.bridge b).backlog < Config.backlogLimit then
        s.modBridge b fun x => { x with
          backlog := x.backlog + 1, zeroDue := x.zeroDue || decide (s.shift.working.urgentLimit ≤ x.backlog + 1) }
      else s) b
  else s

/-- A stable reading of an IDLE bridge (R106). -/
def State.zeroCheck (s : State) (b : BridgeNo) (reading count : Int) : State :=
  let x := s.bridge b
  if x.present = false ∧ (0 < x.backlog ∨ x.zeroDue = true ∨ x.zeroRequest = true) then
    let c := (s.channel b).active
    if reading.natAbs ≤ c.zeroBand * c.division then s.takeZero b count else s.enterLocked b .zeroBand none
  else s

/-! ## Captures (R101, R102) -/

/-- A stable reading of a BOUND bridge (R101). -/
def State.captureTest (s : State) (b : BridgeNo) (reading : Int) : State :=
  let c := s.channel b
  if (s.bridge b).present = true ∧ ((20 * c.active.division : Nat) : Int) ≤ reading ∧ c.overrange = false then
    match (s.bridge b).binding with
    | none => s
    | some x =>
      let held := s.modBridge b fun y => { y with state := .capture, bindTimer := none }
      match x.pass with
      | .gross cls grower inspection wish =>
        let r := held.grossCapture b x.vehicle cls grower inspection wish reading.toNat
        r.1.requestWrite (.bridge b) (.gross r.2)
      | .tare n =>
        match held.tareCapture b n reading.toNat with
        | some t => held.requestWrite (.bridge b) (.tare t)
        | none => s
  else s

/-- The bridge leaves CAPTURE when its ticket's completion has been taken (R102). -/
def State.leaveCapture (s : State) (b : BridgeNo) : State :=
  match (s.bridge b).pendingCause with
  | some cause => s.enterLocked b cause none
  | none =>
    let s := s.modBridge b fun x => { x with state := .clearing }
    if (s.bridge b).present then s else s.goIdle b

/-! ## Timers of a bridge -/

/-- The bind-life timer runs out (R98). -/
def State.bindExpired (s : State) (b : BridgeNo) : State :=
  match (s.bridge b).state, (s.bridge b).bindTimer, (s.bridge b).binding with
  | .bound, some _, some x => ((s.discardBinding b).notify (.bindExpired b x)).goIdle b
  | _, _, _ => s

/-- A persistence timer runs out (R108). -/
def State.persistenceExpired (s : State) (b : BridgeNo) (k : RangeKind) : State :=
  match (s.bridge b).timer k with
  | .running _ => (s.modBridge b fun x => x.setTimer k .ranOut).arise b (rangeCause k)
  | .stopped | .ranOut => s

/-- The clear-hold timer runs out (R93). -/
def State.clearHoldExpired (s : State) (b : BridgeNo) : State :=
  if (s.bridge b).clearHold.isSome then s.judgeAbsent b else s

/-! ## Requests -/

/-- Tests of a gross pass that ask the tables (R96, tests 7, 8, 13, 14). -/
def State.grossRefusal (s : State) (grower : Nat) : Option ResultCode :=
  if (s.grower? grower).isNone then some .notFound
  else if Config.deliveryCapacity ≤ s.dt.records.length + s.dt.reserved ∨ Config.numberLimit ≤ s.dt.counter + s.dt.reserved then
    some .full
  else if s.store.state = .failed then some .storeFailed
  else if s.free < s.store.reserved + Config.grossBindThreshold then some .storeLow
  else none

/-- Tests of a tare pass that ask the tables (R96, tests 9 to 13, 15). -/
def State.tareRefusal (s : State) (vehicle n : Nat) : Option ResultCode :=
  match s.delivery? n with
  | none => some .notFound
  | some d =>
    if d.netting.isSome ∨ d.pendingNet.isSome ∨ d.state = .settling ∨ d.state = .voiding then some .wrongState
    else if (s.tareBridge n).isSome then some .inUse
    else if vehicle ≠ d.vehicle then some .mismatch
    else s.reservationRefusal 1

/-- Tests 4 to 6 of R96: the bridge's own state. -/
def State.bindRefusal (s : State) (b : BridgeNo) : Option ResultCode :=
  match (s.bridge b).state with
  | .bound => some .already
  | .capture | .clearing | .calibrating => some .wrongState
  | .locked => some .locked
  | .idle | .arrived => if (s.bridge b).zeroDue then some .locked else none

/-- A binding is created on a bridge (R97). -/
def State.bindBridge (s : State) (b : BridgeNo) (x : Binding) : State :=
  s.modBridge b fun y => { y with state := .bound, binding := some x, bindTimer := some (x.life * 60000) }

/-- The class a gross binding carries (R28): the registered one, else the one requested. -/
def State.bindClass (s : State) (vehicle cls : Nat) : Nat :=
  match s.vehicle? vehicle with
  | some v => v.cls
  | none => cls

/-- Test 2 of R96. -/
def State.grossFieldsBad (s : State) (vehicle cls insp wish grower : Nat) : Bool :=
  decide (grower = 0) || decide (9999 < grower) || decide (9 < insp) || decide (1 < wish) ||
    ((s.vehicle? vehicle).isNone && decide (3 < cls))

/-- BIND (R96, R97). -/
def decideBind (bridge pass vehicle cls insp wish grower delivery : Nat) (s : State) : Decision :=
  match bridgeOf bridge with
  | none => .refuse .badField
  | some b =>
    if (pass ≠ 1 ∧ pass ≠ 2) ∨ vehicle = 0 then .refuse .badField
    else if pass = 1 then
      if s.grossFieldsBad vehicle cls insp wish grower then .refuse .badField
      else
        match s.bindRefusal b with
        | some code => .refuse code
        | none =>
          match s.grossRefusal grower with
          | some code => .refuse code
          | none =>
            let x : Binding :=
              { vehicle := vehicle, pass := .gross (s.bindClass vehicle cls) grower insp (wish == 1)
                bindTime := s.now, life := s.shift.working.bindLife }
            let s := s.reserve 2
            let s := { s with dt := { s.dt with reserved := s.dt.reserved + 1 } }
            let s := s.modGrower grower fun g => { g with openCount := g.openCount + 1 }
            .take (s.bindBridge b x) (.binding b x)
    else
      if numberBad delivery then .refuse .badField
      else
        match s.bindRefusal b with
        | some code => .refuse code
        | none =>
          match s.tareRefusal vehicle delivery with
          | some code => .refuse code
          | none =>
            let x : Binding :=
              { vehicle := vehicle, pass := .tare delivery, bindTime := s.now, life := s.shift.working.bindLife }
            .take ((s.reserve 1).bindBridge b x) (.binding b x)

/-- UNBIND (R100). -/
def decideUnbind (bridge : Nat) (s : State) : Decision :=
  match bridgeOf bridge with
  | none => .refuse .badField
  | some b =>
    match (s.bridge b).state, (s.bridge b).binding with
    | .bound, some x => .take ((s.discardBinding b).goIdle b) (.discarded x)
    | _, _ => .refuse .wrongState

/-- What BRIDGE QUERY shows (R116). -/
def State.bridgeReport (s : State) (b : BridgeNo) : BridgeReport :=
  let x := s.bridge b
  let c := s.channel b
  { state := x.state, present := x.present, zeroDue := x.zeroDue
    applyPending := (match c.pending with | some p => p.held | none => false)
    zeroRequest := x.zeroRequest, lockCause := x.lockCause, pendingCause := x.pendingCause, entry := x.entry
    binding := x.binding, bindSeconds := (x.bindTimer.getD 0) / 1000, backlog := x.backlog
    minutesLeft := x.zeroDeadline - s.clock.minutes, rounded := c.rounded, lastStable := c.lastStable
    entryLamp := entryDemand x, exitLamp := exitDemand x }

/-- BRIDGE QUERY (R116). -/
def decideBridgeQuery (bridge : Nat) (s : State) : Decision :=
  match bridgeOf bridge with
  | none => .refuse .badField
  | some b => .take s (.bridge b (s.bridgeReport b))

/-- Whether any standing condition holds, the range ones by their live flags (R111). -/
def State.anyStanding (s : State) (b : BridgeNo) : Bool :=
  s.stands b .unconfigured || s.stands b .calInvalid || s.stands b .wireOff ||
    (s.channel b).overrange || (s.channel b).underrange

/-- CLEAR FAULT (R111). -/
def decideClearFault (bridge : Nat) (s : State) : Decision :=
  match bridgeOf bridge with
  | none => .refuse .badField
  | some b =>
    if (s.bridge b).state ≠ .locked then .refuse .wrongState
    else if s.anyStanding b then .refuse .locked
    else
      let s := (s.modBridge b fun x => { x with lockCause := none, zeroDue := true }).restartTimers b
      .take (s.goIdle b) .none

/-- ZERO NOW (R107). -/
def decideZeroNow (bridge : Nat) (s : State) : Decision :=
  match bridgeOf bridge with
  | none => .refuse .badField
  | some b =>
    if (s.bridge b).state ≠ .idle then .refuse .wrongState
    else .take (s.modBridge b fun x => { x with zeroRequest := true }) .none

end Sys2Proof.Machine
end

