-- ==== Sys2Proof/Machine/Channels.lean ====
section
/-! DEFINITION. The load-cell channels: conversions, readings, stability, sense checks, staged configuration and calibration sessions (chapter 6). -/
namespace Sys2Proof.Machine

open Sys2Proof

/-! ## Field-list bodies (R203) -/

/-- No id stands twice in a field list. -/
def idsDistinct : List (Nat × Nat) → Bool
  | [] => true
  | e :: es => !(es.any fun x => x.1 == e.1) && idsDistinct es

/-- A field list that an owner takes: so many entries, no field twice, every entry a field of the target with a value
in its range. -/
def entriesOk (least most : Nat) (ok : Nat → Nat → Bool) (es : List (Nat × Nat)) : Bool :=
  decide (least ≤ es.length) && decide (es.length ≤ most) && idsDistinct es && es.all fun e => ok e.1 e.2

/-! ## Calibration sessions (R134 to R138) -/

/-- A session ends without a commit: its slot is given back and the bridge returns to its entry state, its persistence
timers afresh (R112, R137). -/
def State.endSession (s : State) (b : BridgeNo) : State :=
  let s := (s.modChannel b fun c => { c with session := none }).giveBack 1
  let s := s.restartTimers b
  match (s.bridge b).entry with
  | some (.locked cause) => s.enterLocked b cause none
  | some .idle | none => s.goIdle b

/-- A step reading completes the step in progress (R135); with none in progress it is discarded (R136). -/
def State.stepReading (s : State) (b : BridgeNo) (count : Int) : State :=
  match (s.channel b).session with
  | none => s
  | some x =>
    match x.step with
    | none => s
    | some step =>
      match step.kind with
      | .zero =>
        (s.modChannel b fun c => { c with session := some { x with step := none, zeroResult := some count } }).notify
          (.calStep b .zero .done (some count))
      | .span mass =>
        (s.modChannel b fun c => { c with session := some { x with step := none, spanResult := some (count, mass) } }).notify
          (.calStep b .span .done (some count))

/-- A step's limit runs out (R136). -/
def State.stepTimeout (s : State) (b : BridgeNo) : State :=
  match (s.channel b).session with
  | none => s
  | some x =>
    match x.step with
    | none => s
    | some step =>
      (s.modChannel b fun c => { c with session := some { x with step := none } }).notify
        (.calStep b (match step.kind with | .zero => .zero | .span _ => .span) .timedOut none)

/-- A session's idle limit runs out (R137). -/
def State.sessionTimeout (s : State) (b : BridgeNo) : State :=
  match (s.channel b).session with
  | none => s
  | some x =>
    if x.idle.isSome then (s.endSession b).notify (.calStep b .whole .abandoned none) else s

/-- The step of R138 when a session's CAL record completes; a wire-off raised since its write started is then taken by
the bridge, whether or not its flag still stands. -/
def State.sessionComplete (s : State) (b : BridgeNo) (body : CalBody) : State :=
  let wireOff := ((s.channel b).session.map (·.wireOff)).getD false
  let s := (s.modChannel b fun c => { c with cal := body.new, session := none }).endPeriod b
  let s := ((s.takeZero b body.new.zeroCounts).restartTimers b).goIdle b
  let s := s.notify (.calStep b .commit .done none)
  if wireOff then s.arise b .wireOff else s

/-! ## Wire-off (R112, R126) -/

/-- WIRE_OFF reaches the bridge (R109, R112); while the session's CAL record is being written it is kept for the
completion (R138). -/
def State.wireOffBridge (s : State) (b : BridgeNo) : State :=
  if (s.bridge b).state = .calibrating then
    if s.store.sessionWriting b then
      s.modChannel b fun c => { c with session := c.session.map fun x => { x with wireOff := true } }
    else
      let s := { s with store := s.store.withdraw b }
      let s := (s.modChannel b fun c => { c with session := none }).giveBack 1
      let s := s.notify (.calStep b .whole .abandoned none)
      (s.restartTimers b).enterLocked b .wireOff none
  else s.arise b .wireOff

/-- The wire-off flag is raised (R126). -/
def State.raiseWireOff (s : State) (b : BridgeNo) : State :=
  let s := (s.modChannel b fun c => { c with wireOff := true }).emptyMean b
  (s.wireOffBridge b).judgePresence b

/-- The wire-off flag is cleared, and the mean begins to fill (R126). -/
def State.clearWireOff (s : State) (b : BridgeNo) : State :=
  let s := s.modChannel b fun c => { c with wireOff := false, mean := [] }
  (s.ceased b .wireOff).judgePresence b

/-! ## From a count to a reading (R121, R122, R125) -/

/-- The conversions a full mean holds (R121). -/
def ChannelConfig.meanLength (c : ChannelConfig) : Nat := 2 ^ c.filter

/-- The rounded reading of a filtered count, in kg (R122). -/
def roundedReading (config : ChannelConfig) (cal : Calibration) (zero filtered : Int) : Int :=
  if cal.spanCounts = cal.zeroCounts then Config.scalelessReading filtered
  else roundAway ((filtered - zero) * cal.testMass) ((cal.spanCounts - cal.zeroCounts) * config.division) * config.division

/-- A stable ending is handed over (R124): to the session, as a capture, as a zero check, or to nothing. -/
def State.stableEnding (s : State) (b : BridgeNo) (reading count : Int) : State :=
  match (s.bridge b).state with
  | .calibrating => s.stepReading b count
  | .bound => s.captureTest b reading
  | .idle => s.zeroCheck b reading count
  | .arrived | .capture | .clearing | .locked => s

/-- The stability period at a reading (R123). -/
def State.stability (s : State) (b : BridgeNo) (reading count : Int) : State :=
  let c := s.channel b
  match c.period with
  | none => s.modChannel b fun c => { c with period := some ⟨reading, 0⟩ }
  | some p =>
    if c.active.division < (reading - p.first).natAbs then
      s.modChannel b fun c => { c with period := some ⟨reading, 0⟩, lastStable := false }
    else if 10 * c.active.stability ≤ p.conversions + 1 then
      (s.modChannel b fun c => { c with period := none, lastStable := true }).stableEnding b reading count
    else s.modChannel b fun c => { c with period := some { p with conversions := p.conversions + 1 } }

/-- A rounded reading is formed: the range flags, then presence, then stability (R122, R123, R125, R93; the order is log
11). DESIGN CHOICE, log 42: a reading that itself sets PRESENT begins no period, also where none was in progress, and
there last period stable stays as it was. -/
def State.takeReading (s : State) (b : BridgeNo) (filtered : Int) : State :=
  let c := s.channel b
  let reading := roundedReading c.active c.cal (s.bridge b).currentZero filtered
  let s := s.modChannel b fun c => { c with rounded := some reading }
  let s := s.setRange b .over (decide (((c.active.capacity + 9 * c.active.division : Nat) : Int) < reading))
  let s := s.setRange b .under (decide (reading < -((20 * c.active.division : Nat) : Int)))
  let before := (s.bridge b).present
  let s := s.judgePresence b
  if (s.bridge b).present = before then s.stability b reading filtered else s

/-- A passing count joins the running mean (R121). -/
def State.joinMean (s : State) (b : BridgeNo) (count : Int) : State :=
  let c := s.channel b
  let mean := (count :: c.mean).take c.active.meanLength
  let s := s.modChannel b fun c => { c with mean := mean }
  if mean.length = c.active.meanLength then
    let filtered := roundAway mean.sum c.active.meanLength
    let s := s.modChannel b fun c => { c with filtered := filtered }
    if c.active = ChannelConfig.allZero then s else s.takeReading b filtered
  else s

/-- Whether a conversion's sense check fails (R126). -/
def senseFails (count : Int) (agree : Bool) : Bool :=
  !agree || decide (count = Config.countMin) || decide (count = Config.countMax)

/-- A conversion (R121, R126). -/
def State.convert (s : State) (b : BridgeNo) (count : Int) (agree : Bool) : State :=
  if senseFails count agree then
    let s := s.modChannel b fun c => { c with
      failRun := c.failRun + 1, passRun := 0
      period := c.period.map fun p => { p with conversions := p.conversions + 1 } }
    if Config.wireOffRun ≤ (s.channel b).failRun ∧ (s.channel b).wireOff = false then s.raiseWireOff b else s
  else
    let s := s.modChannel b fun c => { c with passRun := c.passRun + 1, failRun := 0 }
    if (s.channel b).wireOff then
      if Config.wireClearRun ≤ (s.channel b).passRun then s.clearWireOff b else s
    else s.joinMean b count

/-- The period in progress ends stable at the current reading (R123, R124). -/
def State.periodStable (s : State) (b : BridgeNo) : State :=
  let c := s.channel b
  match c.period, c.rounded with
  | some _, some reading =>
    (s.modChannel b fun c => { c with period := none, lastStable := true }).stableEnding b reading c.filtered
  | _, _ => s

/-- The failing run reaches 5 while the flag is clear (R126). -/
def State.wireOffRun (s : State) (b : BridgeNo) : State :=
  if (s.channel b).wireOff then s
  else
    State.raiseWireOff
      (s.modChannel b fun c => { c with failRun := max c.failRun Config.wireOffRun, passRun := 0 }) b

/-- The passing run reaches 100 while the flag stands (R126). -/
def State.wireClearRun (s : State) (b : BridgeNo) : State :=
  if (s.channel b).wireOff then
    State.clearWireOff
      (s.modChannel b fun c => { c with passRun := max c.passRun Config.wireClearRun, failRun := 0 }) b
  else s

/-! ## Staged configuration (R127 to R132) -/

/-- A configuration field's range, by its field id (R127, R203). -/
def configFieldOk (id value : Nat) : Bool :=
  match id with
  | 1 => decide (10000 ≤ value ∧ value ≤ 120000)
  | 2 => [5, 10, 20, 50].contains value
  | 3 => decide (value ≤ 7)
  | 4 => decide (5 ≤ value ∧ value ≤ 50)
  | 5 => decide (5 ≤ value ∧ value ≤ 100)
  | 6 => decide (1 ≤ value ∧ value ≤ 50)
  | _ => false

/-- Writes a configuration field by its id (R203). -/
def ChannelConfig.setField (c : ChannelConfig) (e : Nat × Nat) : ChannelConfig :=
  match e.1 with
  | 1 => { c with capacity := e.2 }
  | 2 => { c with division := e.2 }
  | 3 => { c with filter := e.2 }
  | 4 => { c with stability := e.2 }
  | 5 => { c with threshold := e.2 }
  | 6 => { c with zeroBand := e.2 }
  | _ => c

/-- A complete record (R127). -/
def ChannelConfig.complete (c : ChannelConfig) : Bool :=
  configFieldOk 1 c.capacity && configFieldOk 2 c.division && configFieldOk 3 c.filter && configFieldOk 4 c.stability &&
    configFieldOk 5 c.threshold && configFieldOk 6 c.zeroBand && c.capacity % c.division == 0

/-- The copy that CONFIG OPEN makes (R128). -/
def ChannelConfig.copy (c : ChannelConfig) : ChannelConfig :=
  if c = ChannelConfig.allZero then { c with threshold := 20, zeroBand := 4 } else c

/-- CONFIG OPEN (R128). -/
def decideConfigOpen (channel : Nat) (s : State) : Decision :=
  match bridgeOf channel with
  | none => .refuse .badField
  | some b =>
    let c := s.channel b
    if c.pending.isSome ∨ (s.bridge b).state = .calibrating then .refuse .wrongState
    else
      .take (s.modChannel b fun c => { c with pending := some ⟨c.active.copy, false⟩ })
        (.configOpened c.active.copy c.active c.cal)

/-- CONFIG SET (R129). -/
def decideConfigSet (channel : Nat) (entries : List (Nat × Nat)) (s : State) : Decision :=
  match bridgeOf channel with
  | none => .refuse .badField
  | some b =>
    match (s.channel b).pending with
    | none => .refuse .wrongState
    | some p =>
      if p.held then .refuse .wrongState
      else if entriesOk 1 6 configFieldOk entries then
        let config := entries.foldl ChannelConfig.setField p.config
        .take (s.modChannel b fun c => { c with pending := some ⟨config, false⟩ }) (.config config)
      else .refuse .badField

/-- CONFIG APPLY (R130). -/
def decideConfigApply (channel : Nat) (s : State) : Decision :=
  match bridgeOf channel with
  | none => .refuse .badField
  | some b =>
    match (s.channel b).pending with
    | none => .refuse .wrongState
    | some p =>
      if p.held ∨ (s.bridge b).state = .calibrating ∨ (s.channel b).owed.isSome then .refuse .wrongState
      else if p.config.complete = false then .refuse .badField
      else
        match s.reservationRefusal 1 with
        | some code => .refuse code
        | none =>
          let s := s.reserve 1
          if (s.bridge b).state = .idle ∨ (s.bridge b).state = .locked then .take (s.applyConfig b false) (.applied false)
          else .take (s.modChannel b fun c => { c with pending := some { p with held := true } }) (.applied true)

/-- CONFIG DISCARD (R132). -/
def decideConfigDiscard (channel : Nat) (s : State) : Decision :=
  match bridgeOf channel with
  | none => .refuse .badField
  | some b =>
    match (s.channel b).pending with
    | none => .refuse .wrongState
    | some p =>
      let s := s.modChannel b fun c => { c with pending := none }
      .take (if p.held then s.giveBack 1 else s) .none

/-! ## Calibration requests (R134 to R139) -/

/-- Whether a pending configuration is held, or a record is owed (R134, R139). -/
def Channel.busy (c : Channel) : Bool :=
  c.owed.isSome || (match c.pending with | some p => p.held | none => false)

/-- A new session (R134). -/
def Session.fresh : Session :=
  { zeroResult := none, spanResult := none, step := none, idle := some Config.calIdleMs, committed := false, wireOff := false }

/-- The bridge enters CALIBRATING (R112). -/
def State.enterCalibrating (s : State) (b : BridgeNo) (entry : EntryState) : State :=
  s.modBridge b fun x => { x with
    state := .calibrating, entry := some entry, lockCause := none, zeroRequest := false
    overTimer := .stopped, underTimer := .stopped }

/-- CAL BEGIN (R134). -/
def decideCalBegin (channel : Nat) (s : State) : Decision :=
  match bridgeOf channel with
  | none => .refuse .badField
  | some b =>
    let go (entry : EntryState) : Decision :=
      if (s.channel b).busy then .refuse .wrongState
      else
        match s.reservationRefusal 1 with
        | some code => .refuse code
        | none =>
          let s := (s.reserve 1).modChannel b fun c => { c with session := some Session.fresh }
          .take (s.enterCalibrating b entry) .none
    match (s.bridge b).state, (s.bridge b).lockCause with
    | .idle, _ => go .idle
    | .locked, some .calInvalid => go (.locked .calInvalid)
    | .locked, some .zeroBand => go (.locked .zeroBand)
    | .locked, _ => .refuse .locked
    | _, _ => .refuse .wrongState

/-- A step begins (R135). -/
def State.beginStep (s : State) (b : BridgeNo) (x : Session) : State :=
  (s.modChannel b fun c => { c with session := some { x with idle := some Config.calIdleMs } }).endPeriod b

/-- The session that may begin a step: no step in progress and no COMMIT taken (R135). -/
def State.stepSession (s : State) (b : BridgeNo) : Option Session :=
  match (s.channel b).session with
  | some x => if x.step.isSome || x.committed then none else some x
  | none => none

/-- CAL ZERO (R135). -/
def decideCalZero (channel : Nat) (s : State) : Decision :=
  match bridgeOf channel with
  | none => .refuse .badField
  | some b =>
    match s.stepSession b with
    | none => .refuse .wrongState
    | some x => .take (s.beginStep b { x with zeroResult := none, step := some ⟨.zero, Config.calStepMs⟩ }) .none

/-- CAL SPAN (R135). -/
def decideCalSpan (channel mass : Nat) (s : State) : Decision :=
  match bridgeOf channel with
  | none => .refuse .badField
  | some b =>
    let capacity := (s.channel b).active.capacity
    if mass * 10 < capacity ∨ capacity < mass then .refuse .badField
    else
      match s.stepSession b with
      | none => .refuse .wrongState
      | some x => .take (s.beginStep b { x with spanResult := none, step := some ⟨.span mass, Config.calStepMs⟩ }) .none

/-- CAL END with ABANDON, once its tests have passed (R137). -/
def State.calAbandon (s : State) (b : BridgeNo) : Decision := .take (s.endSession b) .none

/-- CAL END with COMMIT, once its tests have passed (R137). -/
def State.calCommit (s : State) (b : BridgeNo) (x : Session) (zero span : Int) (mass : Nat) : Decision :=
  if span - zero < Config.minimumSpan then
    let s := (s.modChannel b fun c => { c with cal := { c.cal with outcome := .bad } }).endPeriod b
    .take ((s.endSession b).notify (.calStep b .commit .bad none)) (.committed true)
  else
    let body : CalBody :=
      { channel := b, new := { zeroCounts := zero, spanCounts := span, testMass := mass, valid := true, outcome := .done }
        replaced := (s.channel b).cal }
    let s := s.modChannel b fun c => { c with session := some { x with idle := none, committed := true } }
    .take (s.requestWrite (.session b) (.cal body)) (.committed false)

/-- CAL END (R137). -/
def decideCalEnd (channel ending : Nat) (s : State) : Decision :=
  match bridgeOf channel with
  | none => .refuse .badField
  | some b =>
    if ending ≠ 1 ∧ ending ≠ 2 then .refuse .badField
    else
      match (s.channel b).session with
      | none => .refuse .wrongState
      | some x =>
        if x.committed then .refuse .wrongState
        else if ending = 2 then s.calAbandon b
        else
          match x.step, x.zeroResult, x.spanResult with
          | none, some zero, some (span, mass) => s.calCommit b x zero span mass
          | _, _, _ => .refuse .wrongState

/-- CAL DEFAULT (R139). -/
def decideCalDefault (channel : Nat) (s : State) : Decision :=
  match bridgeOf channel with
  | none => .refuse .badField
  | some b =>
    if (s.bridge b).state ≠ .idle ∧ (s.bridge b).state ≠ .locked then .refuse .wrongState
    else if (s.channel b).busy then .refuse .wrongState
    else
      match s.reservationRefusal 1 with
      | some code => .refuse code
      | none =>
        let old := (s.channel b).cal
        let new := Calibration.nominal (s.channel b).active.capacity old.outcome
        let body : CalBody := { channel := b, new := new, replaced := old }
        let s := (s.reserve 1).modChannel b fun c => { c with cal := new, owed := some (.cal body) }
        let s := (s.endPeriod b).setZero b 0
        let s := s.requestWrite (.channel b) (.cal body)
        .take (s.arise b .calInvalid) .none

end Sys2Proof.Machine
end

