-- ==== Sys2Proof/Machine/Lines.lean ====
section
/-! DEFINITION. The field line unit: raw levels, filtered levels, what a line delivers, the SC pulse and LINE SET (chapter 7). -/
namespace Sys2Proof.Machine

open Sys2Proof

/-! ## Input lines (R142 to R148, R154) -/

def FieldLines.input (l : FieldLines) : InputLine → Input
  | .e n => l.e.get n
  | .x n => l.x.get n
  | .cp => l.cp
  | .jp => l.jp
  | .wp => l.wp
  | .tr => l.tr
  | .ss => l.ss

def FieldLines.setInput (l : FieldLines) (line : InputLine) (i : Input) : FieldLines :=
  match line with
  | .e n => { l with e := l.e.set n i }
  | .x n => { l with x := l.x.set n i }
  | .cp => { l with cp := i }
  | .jp => { l with jp := i }
  | .wp => { l with wp := i }
  | .tr => { l with tr := i }
  | .ss => { l with ss := i }

def State.setInput (s : State) (line : InputLine) (i : Input) : State := { s with lines := s.lines.setInput line i }

/-- The wire takes an electrical level: away from the filtered level the hold timer starts, back to it the timer
stops (R143); an unsettled line times its new level afresh (R154). -/
def Input.rawChange (i : Input) (high : Bool) : Input :=
  if i.raw = high then i
  else
    match i.filtered with
    | none => { i with raw := high, steady := 0 }
    | some f => { i with raw := high, hold := if f = high then none else some 0 }

/-- How long the raw level that waits to be taken has held, in ms: on a settled line by its hold timer (R143), on an
unsettled one since the RESTART or its last change (R154). None where no level waits. -/
def Input.heldFor (i : Input) : Option Nat :=
  match i.filtered with
  | none => some i.steady
  | some _ => i.hold

/-- What a level line delivers: its level, taken as a change by its owner (R144, R147, R148). -/
def State.deliverLevel (s : State) : InputLine → State
  | .e n => s.judgePresence n
  | .x n => s.judgePresence n
  | .tr => if s.running then s.samplerTest else s
  | .cp | .jp | .wp | .ss => s

/-- What a pulse line delivers at an active edge (R144, R145, R150). -/
def State.deliverEdge (s : State) : InputLine → State
  | .cp => s.canePulse s.lines.cpMass
  | .jp => s.juicePulse s.lines.jpMass
  | .wp => s.waterPulse s.lines.wpMass
  | .ss => s.strokeEdge
  | .e _ | .x _ | .tr => s

/-- The filtered level becomes the raw level, and the line delivers it: a line that was unsettled delivers no edge
(R143, R144, R154). -/
def State.takeLevel (s : State) (line : InputLine) : State :=
  let old := s.lines.input line
  let new : Input := { old with filtered := some old.raw, hold := none, steady := 0 }
  let s := (s.setInput line new).deliverLevel line
  if old.level == some false && new.level == some true then s.deliverEdge line else s

/-- The hold timer runs out (R143); on an unsettled line, the raw level has held for the filter time (R154). -/
def State.holdExpired (s : State) (line : InputLine) : State :=
  let i := s.lines.input line
  if i.heldFor.isSome then s.takeLevel line else s

/-! ## The SC pulse (R149) -/

def ScLine.pulseEnd : ScLine → ScLine
  | .on _ => .off
  | .off => .off
  | .gap n => .gap n

def ScLine.gapEnd : ScLine → ScLine
  | .gap _ => .on Config.scPulseMs
  | .off => .off
  | .on n => .on n

/-! ## LINE SET (R155) -/

/-- The 23 lines by kind (R142, R151). -/
inductive LineTarget
  | input (line : InputLine)
  | entryLamp (b : BridgeNo)
  | exitLamp (b : BridgeNo)
  | sc
  | al
  deriving DecidableEq, Repr

/-- The line ids of R203. -/
def lineOf : Nat → Option LineTarget
  | 1 => some (.input (.e .b1)) | 2 => some (.input (.e .b2)) | 3 => some (.input (.e .b3)) | 4 => some (.input (.e .b4))
  | 5 => some (.input (.x .b1)) | 6 => some (.input (.x .b2)) | 7 => some (.input (.x .b3)) | 8 => some (.input (.x .b4))
  | 9 => some (.input .cp) | 10 => some (.input .jp) | 11 => some (.input .wp) | 12 => some (.input .tr)
  | 13 => some (.input .ss)
  | 14 => some (.entryLamp .b1) | 15 => some (.entryLamp .b2) | 16 => some (.entryLamp .b3) | 17 => some (.entryLamp .b4)
  | 18 => some (.exitLamp .b1) | 19 => some (.exitLamp .b2) | 20 => some (.exitLamp .b3) | 21 => some (.exitLamp .b4)
  | 22 => some .sc | 23 => some .al
  | _ => none

/-- Pulse masses a line may have (R145). -/
def massOk (line : InputLine) (v : Nat) : Bool :=
  match line with
  | .cp => decide (10 ≤ v ∧ v ≤ 500 ∧ v % 10 = 0)
  | .jp | .wp => decide (1 ≤ v ∧ v ≤ 100)
  | .e _ | .x _ | .tr | .ss => false

/-- Whether a line has a setting and the value is one of that setting's (R142, R145, R155); setting ids of R203. -/
def settingOk (t : LineTarget) (id value : Nat) : Bool :=
  match t with
  | .input line =>
    if id = 1 then decide (value ≤ 1)
    else if id = 2 then [1, 2, 5, 10, 20, 50, 100, 200].contains value
    else if id = 3 then massOk line value
    else false
  | .entryLamp _ | .exitLamp _ => id = 4 && decide (value ≤ 2)
  | .sc | .al => false

/-- The value given for a setting, if any. -/
def settingGiven (id : Nat) (entries : List (Nat × Nat)) : Option Nat := (entries.find? fun e => e.1 == id).map (·.2)

/-- A pulse mass of a line (R145). -/
def FieldLines.mass (l : FieldLines) : InputLine → Option Nat
  | .cp => some l.cpMass
  | .jp => some l.jpMass
  | .wp => some l.wpMass
  | .e _ | .x _ | .tr | .ss => none

def FieldLines.setMass (l : FieldLines) (line : InputLine) (v : Nat) : FieldLines :=
  match line with
  | .cp => { l with cpMass := v }
  | .jp => { l with jpMass := v }
  | .wp => { l with wpMass := v }
  | .e _ | .x _ | .tr | .ss => l

/-- Polarity by its code (R203). -/
def polarityOf (v : Nat) : Polarity := if v = 0 then .activeHigh else .activeLow

/-- Safe value by its code (R203). -/
def safeValueOf (v : Nat) : SafeValue := if v = 0 then .off else if v = 1 then .on else .hold

/-- The settings of an input line take their new values (R155), every one before any effect (log 22). -/
def State.setInputSettings (s : State) (line : InputLine) (entries : List (Nat × Nat)) : State :=
  let i := s.lines.input line
  let i : Input := { i with
    polarity := ((settingGiven 1 entries).map polarityOf).getD i.polarity
    filterMs := (settingGiven 2 entries).getD i.filterMs }
  let s := s.setInput line i
  match settingGiven 3 entries with
  | some v => { s with lines := s.lines.setMass line v }
  | none => s

/-- The effects of new settings on an input line in use (R148, R155): the new meaning of a level line is delivered as
a change; a level that has held for the new filter time, on a settled or an unsettled line, is taken at once. -/
def State.lineSetInput (s : State) (line : InputLine) (entries : List (Nat × Nat)) : State :=
  let before := s.lines.input line
  let s := s.setInputSettings line entries
  let s :=
    if (s.lines.input line).polarity ≠ before.polarity ∧ before.filtered.isSome = true then s.deliverLevel line else s
  match settingGiven 2 entries, (s.lines.input line).heldFor with
  | some filter, some held => if filter ≤ held then s.takeLevel line else s
  | _, _ => s

/-- A lamp's safe value changes; under a SAFE demand it takes effect at once (R152). -/
def Lamp.setSafe (l : Lamp) (v : SafeValue) (d : LampDemand) : Lamp :=
  match d with
  | .safe => Lamp.drive { l with safe := v } .safe
  | .on | .off => { l with safe := v }

def State.lineSetLamp (s : State) (entry : Bool) (b : BridgeNo) (entries : List (Nat × Nat)) : State :=
  match settingGiven 4 entries with
  | none => s
  | some v =>
    if entry then
      let lamp := (s.lines.entryLamp.get b).setSafe (safeValueOf v) (entryDemand (s.bridge b))
      { s with lines := { s.lines with entryLamp := s.lines.entryLamp.set b lamp } }
    else
      let lamp := (s.lines.exitLamp.get b).setSafe (safeValueOf v) (exitDemand (s.bridge b))
      { s with lines := { s.lines with exitLamp := s.lines.exitLamp.set b lamp } }

/-- The line's settings and level as they stand (R155). -/
def State.lineReport (s : State) : LineTarget → LineReport
  | .input line => .input (s.lines.input line).polarity (s.lines.input line).filterMs (s.lines.mass line)
      (s.lines.input line).level
  | .entryLamp b => .lamp (s.lines.entryLamp.get b).safe (s.lines.entryLamp.get b).on (entryDemand (s.bridge b))
  | .exitLamp b => .lamp (s.lines.exitLamp.get b).safe (s.lines.exitLamp.get b).on (exitDemand (s.bridge b))
  | .sc => .output (match s.lines.sc with | .on _ => true | .off | .gap _ => false)
  | .al => .output s.lines.al

/-- The settings given take effect (R155). -/
def State.lineSet (s : State) (t : LineTarget) (entries : List (Nat × Nat)) : State :=
  match t with
  | .input line => s.lineSetInput line entries
  | .entryLamp b => s.lineSetLamp true b entries
  | .exitLamp b => s.lineSetLamp false b entries
  | .sc | .al => s

/-- LINE SET (R155). -/
def decideLineSet (line : Nat) (entries : List (Nat × Nat)) (s : State) : Decision :=
  match lineOf line with
  | none => .refuse .badField
  | some t =>
    if entriesOk 0 3 (settingOk t) entries then
      let s := s.lineSet t entries
      .take s (.line (s.lineReport t))
    else .refuse .badField

end Sys2Proof.Machine
end

