-- ==== Sys2Proof/Machine/Shifts.lean ====
section
/-! DEFINITION. The shift profile unit: PROFILE LOAD and READ, SHIFT MARK, SEASON OPEN and the completion of their records (chapter 8). -/
namespace Sys2Proof.Machine

open Sys2Proof

/-! ## Profiles (R157 to R159) -/

/-- A profile field's own range, by its field id (R157, R203); the upper ends of minimum strokes and default pol are
the cross-field conditions. -/
def profileFieldOk (id value : Nat) : Bool :=
  if id = 0 then false
  else if id ≤ 4 then decide (1000 ≤ value ∧ value ≤ 60000)
  else if id ≤ 14 then decide (value ≤ 250)
  else
    match id with
    | 15 => decide (10000 ≤ value ∧ value ≤ 200000)
    | 16 => decide (4 ≤ value ∧ value ≤ 40)
    | 17 => decide (1 ≤ value)
    | 18 => decide (2 ≤ value ∧ value ≤ 10)
    | 19 => decide (10 ≤ value ∧ value ≤ 480)
    | 20 => decide (30 ≤ value ∧ value ≤ 720)
    | 21 => decide (100 ≤ value ∧ value ≤ 3000)
    | 22 => true
    | 23 => decide (5 ≤ value ∧ value ≤ 120)
    | 24 => decide (1 ≤ value ∧ value ≤ 15)
    | 25 => decide (2 ≤ value ∧ value ≤ 30)
    | 26 => decide (1 ≤ value ∧ value ≤ 250)
    | _ => false

/-- Writes a profile field by its id (R203). -/
def Profile.setField (p : Profile) (e : Nat × Nat) : Profile :=
  if e.1 ≤ 4 then { p with tares := p.tares.set (e.1 - 1) e.2 }
  else if e.1 ≤ 14 then { p with trash := p.trash.set (e.1 - 5) e.2 }
  else
    match e.1 with
    | 15 => { p with target := e.2 }
    | 16 => { p with strokes := e.2 }
    | 17 => { p with minStrokes := e.2 }
    | 18 => { p with confirm := e.2 }
    | 19 => { p with maxRunning := e.2 }
    | 20 => { p with resultTimeout := e.2 }
    | 21 => { p with defaultBrix := e.2 }
    | 22 => { p with defaultPol := e.2 }
    | 23 => { p with zeroInterval := e.2 }
    | 24 => { p with urgentLimit := e.2 }
    | 25 => { p with bindLife := e.2 }
    | 26 => { p with retare := e.2 }
    | _ => p

/-- The cross-field conditions (R157). -/
def Profile.crossOk (p : Profile) : Bool := decide (p.minStrokes ≤ p.strokes) && decide (p.defaultPol ≤ p.defaultBrix)

def ShiftUnit.shadow (u : ShiftUnit) : Letter → Profile
  | .a => u.shadowA
  | .b => u.shadowB

def ShiftUnit.setShadow (u : ShiftUnit) (l : Letter) (p : Profile) : ShiftUnit :=
  match l with
  | .a => { u with shadowA := p }
  | .b => { u with shadowB := p }

/-- A shadow's letter by its code (R203). -/
def letterOf : Nat → Option Letter
  | 1 => some .a
  | 2 => some .b
  | _ => none

/-- PROFILE LOAD (R158). -/
def decideProfileLoad (profile : Nat) (entries : List (Nat × Nat)) (s : State) : Decision :=
  match letterOf profile with
  | none => .refuse .badField
  | some l =>
    if entriesOk 1 26 profileFieldOk entries then
      let p := entries.foldl Profile.setField (s.shift.shadow l)
      if p.crossOk then .take { s with shift := s.shift.setShadow l p } (.profile p) else .refuse .badField
    else .refuse .badField

/-- What PROFILE READ shows (R159). -/
def State.profileReport (s : State) (p : Profile) : ProfileReport :=
  { profile := p, lastLetter := s.shift.lastLetter, shift := s.shift.number, season := s.shift.season
    start := s.shift.start, acc := s.shift.acc, owed := s.shift.owed.isSome }

/-- PROFILE READ (R159). -/
def decideProfileRead (profile : Nat) (s : State) : Decision :=
  match profile with
  | 0 => .take s (.profileReport (s.profileReport s.shift.working))
  | 1 => .take s (.profileReport (s.profileReport s.shift.shadowA))
  | 2 => .take s (.profileReport (s.profileReport s.shift.shadowB))
  | _ => .refuse .badField

/-! ## The shift mark (R162, R163) -/

/-- The letter a SHIFT MARK names (R162): A, B, or for REPEAT the last letter marked. -/
def State.markLetter (s : State) (letter : Nat) : Except ResultCode Letter :=
  match letter with
  | 1 => .ok .a
  | 2 => .ok .b
  | 3 =>
    match s.shift.lastLetter with
    | some l => .ok l
    | none => .error .wrongState
  | _ => .error .badField

/-- Steps 4 to 7 of R163, after the SHIFT record's contents are fixed. -/
def State.beginShift (s : State) (letter : Letter) (number : Nat) (body : ShiftBody) : State :=
  let s := { s with
    shift := { s.shift with
      working := s.shift.shadow letter, number := number, letter := some letter, start := s.now
      lastLetter := some letter, acc := Accumulators.zeros, owed := some (.shift body) }
    windows := { s.windows with sumCanePol := 0, sumCaneBrix := 0, sumCane := 0 } }
  s.requestWrite .shiftUnit (.shift body)

/-- The SHIFT record's contents (R163 step 3, R164). -/
def State.shiftBody (s : State) (window : Nat) (extended : Bool) : ShiftBody :=
  { number := s.shift.number, letter := s.shift.letter, start := s.shift.start, finish := s.now, acc := s.shift.acc
    window := window, extended := extended }

/-- SHIFT MARK (R162, R163). -/
def decideShiftMark (letter : Nat) (s : State) : Decision :=
  match s.markLetter letter with
  | .error code => .refuse code
  | .ok l =>
    if s.shift.owed.isSome then .refuse .wrongState
    else
      match s.reservationRefusal 1 with
      | some code => .refuse code
      | none =>
        let number := add32 s.shift.number 1
        let window := s.openNumber
        let s := s.reserve 1
        let extended := !s.canOpen
        let s := s.triggerClose number
        .take (s.beginShift l number (s.shiftBody window extended)) (.shiftMarked number l window extended)

/-! ## The season (R165, R166, R197) -/

/-- Whether a channel's work stands in the way of a season (R165). -/
def Channel.inSeasonUse (c : Channel) : Bool := c.pending.isSome || c.session.isSome

/-- The tests of R165. -/
def State.seasonRefusal (s : State) : Option ResultCode :=
  if s.store.state = .failed then some .storeFailed
  else if s.store.exportMark < s.store.lastSequence then some .wrongState
  else if s.store.anyRequest || s.shift.owed.isSome || bridgeList.any fun b => (s.channel b).owed.isSome then
    some .wrongState
  else if s.dt.records.isEmpty = false then some .inUse
  else if bridgeList.any fun b => (s.bridge b).binding.isSome then some .inUse
  else if bridgeList.any fun b => (s.channel b).inSeasonUse then some .inUse
  else if s.free < s.store.reserved + 1 then some .storeLow
  else none

/-- A grower's record as a season opens (R91). -/
def Grower.newSeason (g : Grower) : Grower :=
  { g with settled := 0, netTotal := 0, payableTotal := 0, juiceTotal := 0, openCount := 0, lastSettled := none
           saturated := false }

/-- The SEASON record's contents (R166 step 1). -/
def State.seasonBody (s : State) : SeasonBody :=
  { season := s.shift.season, lastDelivery := s.dt.counter, lastWindow := s.windows.counter, number := s.shift.number
    letter := s.shift.letter, start := s.shift.start, finish := s.now, acc := s.shift.acc }

/-- Reservations held by windows whose record is not yet written (R68, R182). -/
def State.unwrittenWindows (s : State) : Nat := (s.windows.records.filter fun p => !p.2.summaryWritten).length

/-- Every window is discarded and window 1 opens in shift 1 (R70, R166 step 2). -/
def State.seasonWindows (s : State) : State :=
  let s := s.giveBack s.unwrittenWindows
  let s := { s with
    windows := { records := [], counter := 0, pacing := 0, sumCanePol := 0, sumCaneBrix := 0, sumCane := 0 }
    lines := { s.lines with command := none } }
  s.openWindow 1

/-- Active streams end with CUT (R197). -/
def Link.cutStreams (l : Link) : Link :=
  { l with slot1 := l.slot1.map fun x => { x with cut := true }, slot2 := l.slot2.map fun x => { x with cut := true } }

/-- SEASON OPEN (R165, R166). -/
def decideSeasonOpen (s : State) : Decision :=
  match s.seasonRefusal with
  | some code => .refuse code
  | none =>
    let body := s.seasonBody
    let season := add32 s.shift.season 1
    let s := (s.reserve 1).seasonWindows
    let s := { s with
      dt := { s.dt with counter := 0, reserved := 0 }
      feed := []
      growers := Table.mapValues s.growers Grower.newSeason
      shift := { s.shift with
        season := season, number := 1, start := s.now, letter := s.shift.lastLetter, acc := Accumulators.zeros
        owed := some (.season body) }
      link := s.link.cutStreams }
    .take (s.requestWrite .shiftUnit (.season body)) (.season season)

/-! ## Completion (R164, R166) -/

/-- The unit's step when its record completes. -/
def State.shiftComplete (s : State) (sequence : Nat) (body : ShiftBody) : State :=
  State.notify { s with shift := { s.shift with owed := none } } (.shiftClosed sequence body)

def State.seasonComplete (s : State) : State := { s with shift := { s.shift with owed := none } }

end Sys2Proof.Machine
end

