-- ==== Sys2Proof/Machine/Records.lean ====
section
/-! DEFINITION. The completion of a store write, its verify failure, and the requests to the store and the clock (R63, R176, R177, R179, R180, R183). -/
namespace Sys2Proof.Machine

open Sys2Proof

/-- The Sample Window Table's step when a WINDOW record completes (R63). -/
def State.windowComplete (s : State) (sequence n : Nat) : State :=
  let s := s.modWindow n fun w => { w with summaryWritten := true }
  let s :=
    match s.window? n with
    | some w => s.notify (.windowFinal n sequence w)
    | none => s
  (s.settleTestsOf n).releaseTest n

/-- A bridge's step when its ticket completes, around the Delivery Table's (R102). -/
def State.ticketDone (s : State) (b : BridgeNo) (complete : State → State) : State :=
  State.leaveCapture (complete (s.modBridge b fun x => { x with binding := none, bindTimer := none })) b

/-- The requester's completion (R176). -/
def State.requesterComplete (s : State) (sequence : Nat) (r : WriteRequest) : State :=
  match r.requester, r.body with
  | .bridge b, .gross t => s.ticketDone b fun s => s.grossComplete sequence t
  | .bridge b, .tare t => s.ticketDone b fun s => s.tareComplete sequence t
  | .delivery _, .tare t => s.storedComplete sequence t
  | .delivery _, .void v => s.voidComplete sequence v
  | .delivery _, .settle b => s.settleComplete sequence b
  | .window n, _ => s.windowComplete sequence n
  | .shiftUnit, .shift body => s.shiftComplete sequence body
  | .shiftUnit, .season _ => s.seasonComplete
  | .channel c, _ => s.modChannel c fun x => { x with owed := none }
  | .session c, .cal body => s.sessionComplete c body
  | _, _ => s

/-- The verify of the write in flight passes (R176): the record is held and exposed, its reservation consumed, the
requester's completion taken; then the arbiter chooses the next write (R174). -/
def State.completeWrite (s : State) : State :=
  if s.store.state = .failed then s
  else
    match s.store.inFlight with
    | none => s
    | some f =>
      let s := { s with store := { s.store with
        slots := s.store.slots.put f.slot f.record, lastSequence := f.record.sequence, lastSlot := f.slot
        reserved := s.store.reserved - 1 } }
      let s := s.requesterComplete f.record.sequence f.request
      State.startNext { s with store := { s.store with inFlight := none } }

/-- A slot is marked bad (R177). -/
def State.markBad (s : State) (slot : Nat) : State :=
  State.raise { s with store := { s.store with
    badSlots := s.store.badSlots ++ [slot], slots := s.store.slots.drop slot } } .badSlot

/-- The verify of the write in flight fails (R177). -/
def State.failVerify (s : State) : State :=
  if s.store.state = .failed then s
  else
    match s.store.inFlight with
    | none => s
    | some f =>
      if f.second = false then { s with store := { s.store with inFlight := some { f with second := true } } }
      else if s.store.badSlots.length < Config.badSlotCapacity then
        let s := s.markBad f.slot
        let slot := s.store.nextSlot f.slot
        { s with store := { s.store with
          slots := s.store.slots.drop slot, inFlight := some { f with slot := slot, second := false } } }
      else s.failStore

/-! ## Requests -/

/-- EXPORT MARK (R179). -/
def decideExportMark (n : Nat) (s : State) : Decision :=
  if n < s.store.exportMark ∨ s.store.lastSequence < n then .refuse .badField
  else
    let s := State.judgeStore { s with store := { s.store with exportMark := n } }
    .take s (.exported n s.free s.store.reserved s.store.state)

/-- STORE READ (R180). -/
def decideStoreRead (n : Nat) (s : State) : Decision :=
  if n = 0 then .refuse .badField
  else if s.store.lastSequence < n then .refuse .notFound
  else
    match s.store.slots.find? fun p => p.2.sequence == n with
    | none => .refuse .notFound
    | some (_, r) => .take s (.record (r.check != recordCheck r) r)

/-- TIME SET (R183); the running second begins with the reading given (log 1). -/
def decideTimeSet (t : MillTime) (s : State) : Decision :=
  if validTime t then
    .take { s with clock := { s.clock with reading := t, isSet := true, ms := 0 } } (.clockBefore s.clock.reading)
  else .refuse .badField

end Sys2Proof.Machine
end

