-- ==== Sys2Proof/Machine/Operands.lean ====
section
/-! DEFINITION. Requests as frames: the kind and body of every request, and the decoding of a received frame (R189, R203, R204). -/
namespace Sys2Proof.Machine

open Sys2Proof

/-- The request kinds of R203. -/
def requestKind : Request → Nat
  | .status => 0x10
  | .attention => 0x11
  | .linkSet _ _ => 0x12
  | .timeSet _ => 0x13
  | .reportStart _ => 0x18
  | .reportStop _ => 0x19
  | .bind _ _ _ _ _ _ _ _ => 0x20
  | .unbind _ => 0x21
  | .bridgeQuery _ => 0x22
  | .clearFault _ => 0x23
  | .zeroNow _ => 0x24
  | .tip _ => 0x28
  | .voidDelivery _ => 0x29
  | .netFromStored _ => 0x2A
  | .deliveryQuery _ => 0x2B
  | .vehicleSet _ _ => 0x2C
  | .vehicleDrop _ => 0x2D
  | .growerSet _ _ => 0x30
  | .growerDrop _ => 0x31
  | .growerQuery _ => 0x32
  | .sampleClose _ => 0x38
  | .sampleResult _ _ _ => 0x39
  | .sampleVoid _ => 0x3A
  | .windowQuery _ => 0x3B
  | .profileLoad _ _ => 0x40
  | .profileRead _ => 0x41
  | .shiftMark _ => 0x42
  | .seasonOpen => 0x43
  | .configOpen _ => 0x48
  | .configSet _ _ => 0x49
  | .configApply _ => 0x4A
  | .configDiscard _ => 0x4B
  | .calBegin _ => 0x4C
  | .calZero _ => 0x4D
  | .calSpan _ _ => 0x4E
  | .calEnd _ _ => 0x4F
  | .calDefault _ => 0x50
  | .lineSet _ _ => 0x51
  | .storeRead _ => 0x58
  | .exportMark _ => 0x59

/-- A field list: target, count, then ids and values of `w` bytes (R203). -/
def listBody (w target : Nat) (entries : List (Nat × Nat)) : List Byte :=
  beBytes 1 target ++ beBytes 1 entries.length ++ entries.flatMap fun e => beBytes 1 e.1 ++ beBytes w e.2

/-- A request's body (R203, R204). -/
def requestBody : Request → List Byte
  | .status => []
  | .attention => []
  | .linkSet a b => beBytes 1 a ++ beBytes 1 b
  | .timeSet t => timeBytes t
  | .reportStart a => beBytes 1 a
  | .reportStop a => beBytes 1 a
  | .bind b p v c i w g d =>
      beBytes 1 b ++ beBytes 1 p ++ beBytes 2 v ++ beBytes 1 c ++ beBytes 1 i ++ beBytes 1 w ++ beBytes 2 g ++ beBytes 4 d
  | .unbind b => beBytes 1 b
  | .bridgeQuery b => beBytes 1 b
  | .clearFault b => beBytes 1 b
  | .zeroNow b => beBytes 1 b
  | .tip d => beBytes 4 d
  | .voidDelivery d => beBytes 4 d
  | .netFromStored d => beBytes 4 d
  | .deliveryQuery d => beBytes 4 d
  | .vehicleSet v c => beBytes 2 v ++ beBytes 1 c
  | .vehicleDrop v => beBytes 2 v
  | .growerSet g f => beBytes 2 g ++ beBytes 2 f
  | .growerDrop g => beBytes 2 g
  | .growerQuery g => beBytes 2 g
  | .sampleClose w => beBytes 4 w
  | .sampleResult w b p => beBytes 4 w ++ beBytes 2 b ++ beBytes 2 p
  | .sampleVoid w => beBytes 4 w
  | .windowQuery w => beBytes 4 w
  | .profileLoad p es => listBody 4 p es
  | .profileRead p => beBytes 1 p
  | .shiftMark l => beBytes 1 l
  | .seasonOpen => []
  | .configOpen c => beBytes 1 c
  | .configSet c es => listBody 4 c es
  | .configApply c => beBytes 1 c
  | .configDiscard c => beBytes 1 c
  | .calBegin c => beBytes 1 c
  | .calZero c => beBytes 1 c
  | .calSpan c m => beBytes 1 c ++ beBytes 4 m
  | .calEnd c e => beBytes 1 c ++ beBytes 1 e
  | .calDefault c => beBytes 1 c
  | .lineSet l es => listBody 2 l es
  | .storeRead n => beBytes 4 n
  | .exportMark n => beBytes 4 n

/-- A request as the frame that carries it (R203). -/
def requestFrame (r : Request) (tag : Byte) : Frame :=
  { kind := BitVec.ofNat 8 (requestKind r), tag := tag, body := requestBody r }

/-- The entries of a field list, as many as its count declares (R203). -/
def listEntries (w : Nat) : Nat → List Byte → List (Nat × Nat)
  | 0, _ => []
  | n + 1, bytes => (field bytes 0 1, field bytes 1 w) :: listEntries w n (bytes.drop (1 + w))

/-- A request whose body has a fixed length (R189). -/
def fixedBody (body : List Byte) (n : Nat) (r : Request) : Except ResultCode Request :=
  if body.length = n then .ok r else .error .badLength

/-- A request whose body lists fields: its length must be the one its own count declares (R189). -/
def countedBody (body : List Byte) (w : Nat) (r : Nat → List (Nat × Nat) → Request) : Except ResultCode Request :=
  if 2 ≤ body.length ∧ body.length = 2 + (1 + w) * field body 1 1 then
    .ok (r (field body 0 1) (listEntries w (field body 1 1) (body.drop 2)))
  else .error .badLength

/-- A mill time from its six bytes (R203). -/
def timeOf (body : List Byte) : MillTime :=
  { year := 2000 + field body 0 1, month := field body 1 1, day := field body 2 1, hour := field body 3 1
    minute := field body 4 1, second := field body 5 1 }

/-- The request that a frame's kind and body spell, or why there is none (R189, R203). -/
def decodeRequest (f : Frame) : Except ResultCode Request :=
  let b := f.body
  match f.kind.toNat with
  | 0x10 => fixedBody b 0 .status
  | 0x11 => fixedBody b 0 .attention
  | 0x12 => fixedBody b 2 (.linkSet (field b 0 1) (field b 1 1))
  | 0x13 => fixedBody b 6 (.timeSet (timeOf b))
  | 0x18 => fixedBody b 1 (.reportStart (field b 0 1))
  | 0x19 => fixedBody b 1 (.reportStop (field b 0 1))
  | 0x20 => fixedBody b 13 (.bind (field b 0 1) (field b 1 1) (field b 2 2) (field b 4 1) (field b 5 1) (field b 6 1)
      (field b 7 2) (field b 9 4))
  | 0x21 => fixedBody b 1 (.unbind (field b 0 1))
  | 0x22 => fixedBody b 1 (.bridgeQuery (field b 0 1))
  | 0x23 => fixedBody b 1 (.clearFault (field b 0 1))
  | 0x24 => fixedBody b 1 (.zeroNow (field b 0 1))
  | 0x28 => fixedBody b 4 (.tip (field b 0 4))
  | 0x29 => fixedBody b 4 (.voidDelivery (field b 0 4))
  | 0x2A => fixedBody b 4 (.netFromStored (field b 0 4))
  | 0x2B => fixedBody b 4 (.deliveryQuery (field b 0 4))
  | 0x2C => fixedBody b 3 (.vehicleSet (field b 0 2) (field b 2 1))
  | 0x2D => fixedBody b 2 (.vehicleDrop (field b 0 2))
  | 0x30 => fixedBody b 4 (.growerSet (field b 0 2) (field b 2 2))
  | 0x31 => fixedBody b 2 (.growerDrop (field b 0 2))
  | 0x32 => fixedBody b 2 (.growerQuery (field b 0 2))
  | 0x38 => fixedBody b 4 (.sampleClose (field b 0 4))
  | 0x39 => fixedBody b 8 (.sampleResult (field b 0 4) (field b 4 2) (field b 6 2))
  | 0x3A => fixedBody b 4 (.sampleVoid (field b 0 4))
  | 0x3B => fixedBody b 4 (.windowQuery (field b 0 4))
  | 0x40 => countedBody b 4 .profileLoad
  | 0x41 => fixedBody b 1 (.profileRead (field b 0 1))
  | 0x42 => fixedBody b 1 (.shiftMark (field b 0 1))
  | 0x43 => fixedBody b 0 .seasonOpen
  | 0x48 => fixedBody b 1 (.configOpen (field b 0 1))
  | 0x49 => countedBody b 4 .configSet
  | 0x4A => fixedBody b 1 (.configApply (field b 0 1))
  | 0x4B => fixedBody b 1 (.configDiscard (field b 0 1))
  | 0x4C => fixedBody b 1 (.calBegin (field b 0 1))
  | 0x4D => fixedBody b 1 (.calZero (field b 0 1))
  | 0x4E => fixedBody b 5 (.calSpan (field b 0 1) (field b 1 4))
  | 0x4F => fixedBody b 2 (.calEnd (field b 0 1) (field b 1 1))
  | 0x50 => fixedBody b 1 (.calDefault (field b 0 1))
  | 0x51 => countedBody b 2 .lineSet
  | 0x58 => fixedBody b 4 (.storeRead (field b 0 4))
  | 0x59 => fixedBody b 4 (.exportMark (field b 0 4))
  | _ => .error .badKind

end Sys2Proof.Machine
end

