-- ==== Sys2Proof/Machine/Reports.lean ====
section
/-! DEFINITION. The mill link port's outbound side: the report streams, the turn, the arbiter and the port's own requests (R193 to R199, R201). -/
namespace Sys2Proof.Machine

open Sys2Proof

/-! ## Streams and the turn (R194 to R197) -/

def Link.stream (l : Link) : SlotNo → Option Stream
  | .one => l.slot1
  | .two => l.slot2

def Link.setStream (l : Link) (n : SlotNo) (x : Option Stream) : Link :=
  match n with
  | .one => { l with slot1 := x }
  | .two => { l with slot2 := x }

def SlotNo.other : SlotNo → SlotNo
  | .one => .two
  | .two => .one

/-- Who takes the turn, with count 0, that a stream of slot `n` gives up (R194): the other slot's stream, if it is active;
else the stream now in slot `n`, if there is one; else none. A slot's next stream stands in it beside its last stream's
turn only when it was refilled while that stream's REPORT END was on the line (DESIGN CHOICE, log 43). -/
def Link.passTurn (l : Link) (n : SlotNo) : Option Turn :=
  if (l.stream n.other).isSome then some ⟨n.other, 0⟩
  else if (l.stream n).isSome then some ⟨n, 0⟩
  else none

/-- The REPORT END of slot `n`'s last stream is on the line and counts for the turn: the turn is still that stream's, which
is no longer active (R194, R196). -/
def Link.endOnLine (l : Link) (n : SlotNo) : Bool :=
  match l.sending with
  | some f => decide (f.mark = some ⟨n, true⟩)
  | none => false

/-- The turn is settled after a report frame sent (R194). -/
def Link.settleTurn (l : Link) (m : TurnMark) : Link :=
  match l.turn with
  | none => l
  | some t =>
    if t.slot ≠ m.slot then l
    else if m.isEnd then { l with turn := l.passTurn m.slot }
    else if l.minRun + l.maxRun ≤ t.count + 1 then
      { l with turn := some ((l.passTurn m.slot).getD ⟨m.slot, 0⟩) }
    else { l with turn := some ⟨t.slot, t.count + 1⟩ }

/-- The record a stream sends next, with its key (R196). -/
def State.nextItem (s : State) (x : Stream) : Option (Nat × ItemRecord) :=
  match x.set with
  | .growers => (Table.above s.growers x.lastKey).map fun p => (p.1, .grower p.1 p.2)
  | .deliveries => (s.dt.records.above x.lastKey).map fun p => (p.1, .delivery (s.deliveryReport p.1 p.2))
  | .windows => (s.windows.records.above x.lastKey).map fun p => (p.1, .window (s.windowReport p.1 p.2))

/-! ## The arbiter (R193) -/

/-- A frame starts on the transmitter. -/
def State.transmit (s : State) (f : OutFrame) (mark : Option TurnMark) : State :=
  { s with link := { s.link with sending := some { frame := f, bytes := outFrameBytes f, mark := mark } } }

/-- The next frame of the stream in a slot is built and started (R196, R197). -/
def State.sendReport (s : State) (n : SlotNo) (x : Stream) : State :=
  let finish (cut : Bool) : State :=
    State.transmit { s with link := s.link.setStream n none } (.finish x.tag n x.count cut) (some ⟨n, true⟩)
  if x.cut then finish true
  else
    match s.nextItem x with
    | none => finish false
    | some (key, record) =>
      State.transmit
        { s with link := s.link.setStream n (some { x with lastKey := some key, count := x.count + 1 }) }
        (.item x.tag n (x.count + 1) x.set record) (some ⟨n, false⟩)

/-- Whether the stream holding the turn holds ordinary notices back (R193). -/
def Link.holdsBack (l : Link) : Bool :=
  match l.turn with
  | some t => decide (t.count < l.minRun)
  | none => false

/-- A notice that stands at a level and may be chosen: the oldest alarm, else the oldest ordinary one unless it is held
back (R193). -/
def Link.chooseNotice (l : Link) : Option (Notice × List Notice) :=
  match takeFirst (fun x : Notice => x.body.isAlarm) l.notices with
  | some r => some r
  | none => if l.holdsBack then none else takeFirst (fun _ => true) l.notices

/-- The arbiter chooses the next frame while the transmitter is idle (R193). -/
def State.pump (s : State) : State :=
  if s.link.sending.isSome then s
  else
    match s.link.replies with
    | r :: rest => State.transmit { s with link := { s.link with replies := rest } } (.reply r) none
    | [] =>
      match s.link.chooseNotice with
      | some (n, rest) => State.transmit { s with link := { s.link with notices := rest } } (.notice n) none
      | none =>
        match s.link.turn with
        | none => s
        | some t =>
          match s.link.stream t.slot with
          | some x => s.sendReport t.slot x
          | none => s

/-- The frame on the transmitter ends: its turn is settled and the transmitter is idle (R193, R194). -/
def State.endFrame (s : State) : State :=
  match s.link.sending with
  | none => s
  | some f =>
    let link := { s.link with sending := none }
    { s with link := match f.mark with
      | some m => link.settleTurn m
      | none => link }

/-- The frame on the transmitter counts for no turn any more: its stream's turn was given up, or another has begun. -/
def Link.unmark (l : Link) : Link := { l with sending := l.sending.map fun f => { f with mark := none } }

/-! ## The port's own requests -/

/-- A report's set by its code (R203). -/
def reportSetOf : Nat → Option ReportSet
  | 1 => some .growers
  | 2 => some .deliveries
  | 3 => some .windows
  | _ => none

/-- The lower-numbered free slot (R195). -/
def Link.freeSlot (l : Link) : Option SlotNo :=
  if l.slot1.isNone then some .one else if l.slot2.isNone then some .two else none

/-- A stream becomes active in a slot: it takes the turn when no other is active, and waits otherwise (R194, R195). -/
def Link.startStream (l : Link) (n : SlotNo) (x : Stream) : Link :=
  let other := (l.stream n.other).isSome
  let l := l.setStream n (some x)
  if other then l else { l.unmark with turn := some ⟨n, 0⟩ }

/-- REPORT START (R195). -/
def decideReportStart (set : Nat) (tag : Byte) (s : State) : Decision :=
  match reportSetOf set with
  | none => .refuse .badField
  | some k =>
    match s.link.freeSlot with
    | none => .refuse .full
    | some n =>
      .take { s with link := s.link.startStream n { set := k, lastKey := none, count := 0, tag := tag, cut := false } }
        (.reportSlot (slotCode n))

/-- A slot by its number (R197). -/
def slotOf : Nat → Option SlotNo
  | 1 => some .one
  | 2 => some .two
  | _ => none

/-- A stream is stopped: its slot is freed, and it gives up a turn it holds (R194, R197). A stream that waits in the slot
of one whose REPORT END is on the line holds no turn yet (DESIGN CHOICE, log 43). -/
def Link.stopStream (l : Link) (n : SlotNo) : Link :=
  let freed := l.setStream n none
  match l.turn with
  | some t => if t.slot = n ∧ l.endOnLine n = false then { freed.unmark with turn := freed.passTurn n } else freed
  | none => freed

/-- REPORT STOP (R197). -/
def decideReportStop (slot : Nat) (s : State) : Decision :=
  match slotOf slot with
  | none => .refuse .badField
  | some n =>
    match s.link.stream n with
    | none => .refuse .wrongState
    | some x => .take { s with link := s.link.stopStream n } (.itemCount x.count)

/-- LINK SET (R198); 0 means not given (R203). -/
def decideLinkSet (minRun maxRun : Nat) (s : State) : Decision :=
  if 16 < minRun ∨ 64 < maxRun then .refuse .badField
  else
    let least := if minRun = 0 then s.link.minRun else minRun
    let most := if maxRun = 0 then s.link.maxRun else maxRun
    .take { s with link := { s.link with minRun := least, maxRun := most } } (.linkSettings least most)

/-- A bridge in brief (R199). -/
def State.brief (s : State) (b : BridgeNo) : BridgeBrief :=
  let x := s.bridge b
  { state := x.state, present := x.present, zeroDue := x.zeroDue
    applyPending := match (s.channel b).pending with | some p => p.held | none => false }

/-- What STATUS shows (R199). -/
def State.statusReport (s : State) : StatusReport :=
  { season := s.shift.season, shift := s.shift.number, dtUsed := s.dt.records.length, dtReserved := s.dt.reserved
    feedLength := s.feed.length, windowsUsed := s.windows.records.length, openWindow := s.openNumber
    storeState := s.store.state, free := s.free, reserved := s.store.reserved, lastSequence := s.store.lastSequence
    exportMark := s.store.exportMark, badSlots := s.store.badSlots.length
    bridges := ⟨s.brief .b1, s.brief .b2, s.brief .b3, s.brief .b4⟩
    clockSet := s.clock.isSet, notices := s.link.notices.length
    slot1 := s.link.slot1.isSome, slot2 := s.link.slot2.isSome }

/-- STATUS (R199). -/
def decideStatus (s : State) : Decision := .take s (.status s.statusReport)

/-- ATTENTION (R201): the flags as they stand are reported, and every one is cleared in the same step. -/
def decideAttention (s : State) : Decision := .take (s.setFlags Attention.clear) (.attention s.link.flags)

end Sys2Proof.Machine
end

