-- ==== Sys2Proof/Machine/Link.lean ====
section
/-! DEFINITION. The mill link port's inbound side: the receiver, the input buffer, the dispatch of requests to their owners and the placing of replies (R186 to R190). -/
namespace Sys2Proof.Machine

open Sys2Proof

/-- The owner's decision on a request (R189). The tag goes to REPORT START, whose frames carry it (R195). -/
def decideRequest (r : Request) (tag : Byte) (s : State) : Decision :=
  match r with
  | .status => decideStatus s
  | .attention => decideAttention s
  | .linkSet a b => decideLinkSet a b s
  | .timeSet t => decideTimeSet t s
  | .reportStart a => decideReportStart a tag s
  | .reportStop a => decideReportStop a s
  | .bind b p v c i w g d => decideBind b p v c i w g d s
  | .unbind b => decideUnbind b s
  | .bridgeQuery b => decideBridgeQuery b s
  | .clearFault b => decideClearFault b s
  | .zeroNow b => decideZeroNow b s
  | .tip d => decideTip d s
  | .voidDelivery d => decideVoid d s
  | .netFromStored d => decideNetFromStored d s
  | .deliveryQuery d => decideDeliveryQuery d s
  | .vehicleSet v c => decideVehicleSet v c s
  | .vehicleDrop v => decideVehicleDrop v s
  | .growerSet g f => decideGrowerSet g f s
  | .growerDrop g => decideGrowerDrop g s
  | .growerQuery g => decideGrowerQuery g s
  | .sampleClose w => decideSampleClose w s
  | .sampleResult w b p => decideSampleResult w b p s
  | .sampleVoid w => decideSampleVoid w s
  | .windowQuery w => decideWindowQuery w s
  | .profileLoad p es => decideProfileLoad p es s
  | .profileRead p => decideProfileRead p s
  | .shiftMark l => decideShiftMark l s
  | .seasonOpen => decideSeasonOpen s
  | .configOpen c => decideConfigOpen c s
  | .configSet c es => decideConfigSet c es s
  | .configApply c => decideConfigApply c s
  | .configDiscard c => decideConfigDiscard c s
  | .calBegin c => decideCalBegin c s
  | .calZero c => decideCalZero c s
  | .calSpan c m => decideCalSpan c m s
  | .calEnd c e => decideCalEnd c e s
  | .calDefault c => decideCalDefault c s
  | .lineSet l es => decideLineSet l es s
  | .storeRead n => decideStoreRead n s
  | .exportMark n => decideExportMark n s

/-- A reply takes its place at the tail of the reply list (R189). -/
def State.placeReply (s : State) (r : Reply) : State :=
  { s with link := { s.link with replies := s.link.replies ++ [r] } }

/-- The reply to a decision: the request's kind plus 0x80 and its tag (R189); a refusal leaves the state (R190). -/
def State.answer (s : State) (kind tag : Byte) : Decision → State
  | .refuse code => s.placeReply { kind := kind + 0x80, tag := tag, code := code, content := .none }
  | .take t content => t.placeReply { kind := kind + 0x80, tag := tag, code := .ok, content := content }

/-- A frame is taken for dispatch (R189). -/
def State.dispatch (s : State) (f : Frame) : State :=
  match decodeRequest f with
  | .ok r => s.answer f.kind f.tag (decideRequest r f.tag s)
  | .error .badKind => s.placeReply { kind := 0xFF, tag := f.tag, code := .badKind, content := .kindReceived f.kind }
  | .error code => s.answer f.kind f.tag (.refuse code)

/-- Frames wait in the buffer and the reply list has room (R189): the oldest is dispatched, and so on; before each the
idle transmitter takes what is ready. The fuel is how many frames may be taken. -/
def State.settle : Nat → State → State
  | 0, s => s.pump
  | fuel + 1, s =>
    let s := s.pump
    match s.link.input with
    | [] => s
    | f :: rest =>
      if s.link.replies.length < Config.bufferCapacity then
        State.settle fuel (State.dispatch { s with link := { s.link with input := rest } } f)
      else s

/-- What the port does at the end of every step: the idle transmitter takes the next frame, and waiting frames are
dispatched as far as the reply list has room (R189, R193). -/
def State.settleLink (s : State) : State := s.settle (s.link.input.length + 1)

/-- A received frame enters the input buffer, or is discarded when it is full (R188). -/
def State.receiveFrame (s : State) (f : Frame) : State :=
  if s.link.input.length < Config.bufferCapacity then
    { s with link := { s.link with input := s.link.input ++ [f] } }
  else s.raise .inputOverrun

/-! ## The receiver (R186, R187) -/

/-- What a whole frame's bytes hold after the start byte: the frame, when its check agrees. -/
def frameOfBytes (taken : List Byte) : Option Frame :=
  let covered := taken.take (taken.length - 2)
  if taken.drop (taken.length - 2) = checkBytes (checkOf covered) then
    match covered with
    | _ :: kind :: tag :: body => some { kind := kind, tag := tag, body := body }
    | _ => none
  else none

/-- The receiver's next state. -/
def State.setReceiver (s : State) (r : Receiver) : State := { s with link := { s.link with receiver := r } }

/-- A byte is received (R186, R187). -/
def State.feedByte (s : State) (b : Byte) : State :=
  match s.link.receiver with
  | .hunting => if b = 0xA5 then s.setReceiver .length else s
  | .length =>
    if b.toNat < 2 ∨ 250 < b.toNat then (s.setReceiver .hunting).raise .frameError
    else s.setReceiver (.body [b] (b.toNat + 2))
  | .body taken more =>
    if 1 < more then s.setReceiver (.body (taken ++ [b]) (more - 1))
    else
      let s := s.setReceiver .hunting
      match frameOfBytes (taken ++ [b]) with
      | some f => (s.receiveFrame f).settleLink
      | none => s.raise .frameError

/-- More than 20 ms pass between two bytes of one frame: it is discarded, and the receiver hunts (R187). Hunting, the
frame's start byte came just before (log 6); what came of a frame leaves no other trace. -/
def State.gap (s : State) : State := (s.setReceiver .hunting).raise .frameError

/-- A bad length byte arrives (R187): hunting, the start byte before it arrives too; inside a frame's body it is no
length byte (log 6). -/
def State.badLength (s : State) (l : Byte) : State :=
  match s.link.receiver with
  | .hunting => (s.feedByte 0xA5).feedByte l
  | .length => s.feedByte l
  | .body _ _ => s

/-! ## Requests as commands (log 6) -/

/-- A request's whole frame is received: with an empty buffer and room for a reply it is dispatched at once, else it
waits its turn as any frame does (R188, R189). -/
def State.submit (s : State) (r : Request) (tag : Byte) : State :=
  if s.link.input.isEmpty && decide (s.link.replies.length < Config.bufferCapacity) then
    (s.answer (BitVec.ofNat 8 (requestKind r)) tag (decideRequest r tag s)).settleLink
  else (s.receiveFrame (requestFrame r tag)).settleLink

end Sys2Proof.Machine
end

