-- ==== Sys2Proof/Machine/Clock.lean ====
section
/-! DEFINITION. Time: the minute event (R51, R60, R104, R146, R183, R184) and the millisecond that an idle step lets pass (log 1). -/
namespace Sys2Proof.Machine

open Sys2Proof

/-- A running or a stoppage minute (R51, R146). -/
def State.countMinute (s : State) : State :=
  if s.running then s.modWindow s.openNumber fun w => { w with running := add32 w.running 1 }
  else s.tally fun a => { a with stoppage := a.stoppage.plus 1 }

/-- CLOCK_UNSET at a minute advance while the clock-set mark is clear (R183). -/
def State.clockMinute (s : State) : State := if s.clock.isSet then s else s.raise .clockUnset

/-- A minute event (R184): the counter advances; the Sample Window Table takes its work in the order of R51; then each
bridge, then the link port (log 9). -/
def State.minute (s : State) : State :=
  let s := { s with clock := { s.clock with minutes := add32 s.clock.minutes 1 } }
  let s := s.countMinute.durationTest.expireWindows
  (bridgeList.foldl State.zeroMinute s).clockMinute

/-! ## One millisecond -/

def Quad.map {α β : Type} (q : Quad α) (f : α → β) : Quad β := ⟨f q.q1, f q.q2, f q.q3, f q.q4⟩

def Persistence.tick : Persistence → Persistence
  | .running n => .running (n - 1)
  | .stopped => .stopped
  | .ranOut => .ranOut

def Bridge.tick (x : Bridge) : Bridge :=
  { x with
      bindTimer := x.bindTimer.map (· - 1), clearHold := x.clearHold.map (· - 1)
      overTimer := x.overTimer.tick, underTimer := x.underTimer.tick }

def Session.tick (x : Session) : Session :=
  { x with step := x.step.map fun k => { k with left := k.left - 1 }, idle := x.idle.map (· - 1) }

def Channel.tick (c : Channel) : Channel := { c with session := c.session.map Session.tick }

def Input.tick (i : Input) : Input :=
  { i with hold := i.hold.map (· + 1), steady := if i.filtered.isNone then i.steady + 1 else i.steady }

def ScLine.tick : ScLine → ScLine
  | .off => .off
  | .gap n => .gap (n - 1)
  | .on n => .on (n - 1)

def FieldLines.tick (l : FieldLines) : FieldLines :=
  { l with
      e := l.e.map Input.tick, x := l.x.map Input.tick, cp := l.cp.tick, jp := l.jp.tick, wp := l.wp.tick
      tr := l.tr.tick, ss := l.ss.tick, sc := l.sc.tick
      command := l.command.map fun c => { c with left := c.left - 1 } }

def Clock.tick (c : Clock) : Clock :=
  if c.ms + 1 < 1000 then { c with ms := c.ms + 1 }
  else { c with ms := 0, reading := if c.isSet then nextSecond c.reading else c.reading }

/-- One millisecond passes: running timers count down to 0, where their rows take them up; hold timers count up; the
mill clock advances (log 1, log 2). -/
def State.tick (s : State) : State :=
  { s with bridges := s.bridges.map Bridge.tick, channels := s.channels.map Channel.tick
           lines := s.lines.tick, clock := s.clock.tick }

end Sys2Proof.Machine
end

