-- ==== Sys2Proof/Machine/Resets.lean ====
section
/-! DEFINITION. RESTART and BLANK START (R2; R24, R29, R44, R45, R69, R70, R83, R91, R117, R118, R140, R141, R154, R156, R167, R181, R182, R185, R202). -/
namespace Sys2Proof.Machine

open Sys2Proof

/-! ## Volatile state set afresh -/

/-- An input line as it comes up: unsettled, its hold timer stopped and its level held for no time yet; polarity and
filter time kept (R154). -/
def Input.comeUp (i : Input) : Input := { i with filtered := none, hold := none, steady := 0 }

/-- The field line unit as it comes up: outputs off, no sampler command (R154). -/
def FieldLines.comeUp (l : FieldLines) : FieldLines :=
  { l with
      e := l.e.map Input.comeUp, x := l.x.map Input.comeUp, cp := l.cp.comeUp, jp := l.jp.comeUp, wp := l.wp.comeUp
      tr := l.tr.comeUp, ss := l.ss.comeUp
      entryLamp := l.entryLamp.map fun x => { x with on := false }
      exitLamp := l.exitLamp.map fun x => { x with on := false }
      sc := .off, al := false, command := none }

/-- A channel as it comes up (R141); last period stable by log 4, the filtered count by log 37. -/
def Channel.comeUp (c : Channel) : Channel :=
  { c with
      pending := none, session := none, mean := [], filtered := 0, rounded := none, period := none
      lastStable := false, overrange := false, underrange := false, wireOff := false, failRun := 0, passRun := 0 }

/-- A bridge as it comes up, before it takes its state (R118). -/
def Bridge.comeUp (zero : Int) (deadline : Nat) : Bridge :=
  { state := .idle, present := false, zeroDue := true, zeroRequest := false, binding := none, currentZero := zero
    backlog := 0, zeroDeadline := deadline, lockCause := none, pendingCause := none, entry := none, bindTimer := none
    clearHold := none, overTimer := .stopped, underTimer := .stopped }

/-- The store's volatile part is lost (R173, R182). -/
def Store.comeUp (st : Store) : Store :=
  { st with tickets := Quad.const none, shared := [], waiting := [], inFlight := none, lastTicket := none }

/-- The clocks after an outage (R183, R184): so many counter advances and seconds, unless the timebase stopped. -/
def Clock.comeUp (c : Clock) (minutes seconds : Nat) (stopped : Bool) : Clock :=
  if stopped then { c with reading := MillTime.zeros, isSet := false, ms := 0 }
  else
    { c with
        minutes := add32 c.minutes minutes
        reading := if c.isSet then afterSeconds seconds c.reading else c.reading }

/-- Open counts recomputed from the Delivery Table (R88, R91). -/
def recountGrowers (records : Table Delivery) (growers : Table Grower) : Table Grower :=
  growers.map fun p => (p.1, { p.2 with openCount := (records.filter fun d => d.2.grower == p.1).length })

/-- Every block's volatile state set afresh; RESTARTED raised (R202). -/
def State.comeUp (s : State) (minutes seconds : Nat) (stopped : Bool) : State :=
  let clock := s.clock.comeUp minutes seconds stopped
  let deadline := add32 clock.minutes s.shift.working.zeroInterval
  let channels := s.channels.map Channel.comeUp
  State.raise
    { s with
        clock := clock
        channels := channels
        bridges := channels.map fun c => Bridge.comeUp c.cal.zeroCounts deadline
        lines := s.lines.comeUp
        dt := { s.dt with reserved := 0 }
        growers := recountGrowers s.dt.records s.growers
        store := s.store.comeUp
        link := Link.factory s.link.minRun s.link.maxRun } .restarted

/-! ## The restart scan and the recount (R181, R182) -/

/-- The scan's first check (R181). -/
def Store.lastRecordGood (st : Store) : Bool :=
  if st.lastSequence = 0 then true
  else
    match st.slots.find st.lastSlot with
    | some r => r.sequence == st.lastSequence && r.check == recordCheck r
    | none => false

/-- The test pattern is written over the next good slot, whose record is held no more (R168, R181; log 17). -/
def State.writePattern (s : State) : State :=
  { s with store := { s.store with slots := s.store.slots.drop (s.store.nextSlot s.store.lastSlot) } }

/-- The scan's third check, `failing` next slots failing in turn: the state, and whether a good slot was found. -/
def State.testSlots : Nat → State → State × Bool
  | 0, s => (s.writePattern, true)
  | failing + 1, s =>
    if s.store.badSlots.length < Config.badSlotCapacity then
      State.testSlots failing (s.markBad (s.store.nextSlot s.store.lastSlot))
    else (s.writePattern, false)

/-- The restart scan: the state, and whether it succeeded (R181). -/
def State.scan (s : State) (failing : Nat) : State × Bool :=
  if s.store.lastRecordGood then s.testSlots failing else (s, false)

/-- The holdings that the store counts after a RESTART (R182). -/
def State.holdings (s : State) : Nat :=
  s.dt.records.length + (s.dt.records.filter fun p => p.2.pendingNet.isSome).length + s.unwrittenWindows +
    (bridgeList.filter fun b => (s.channel b).owed.isSome).length + (if s.shift.owed.isSome then 1 else 0)

/-- The store after its scan: the reserved total recounted, the state by the scan and the figures (R181, R182). -/
def State.recount (s : State) (good : Bool) : State :=
  let s := { s with store := { s.store with reserved := s.holdings } }
  let next : StoreState :=
    if good then (if s.free < s.store.reserved + Config.lowThreshold then .low else .normal) else .failed
  { s with store := { s.store with state := next } }

/-! ## The owners' part (R24, R69, R118, R141, R182) -/

/-- A CLOSED window with no stroke seen has lost its command (R69). -/
def State.voidLostCan (s : State) (n : Nat) : State :=
  match s.window? n with
  | some w => if w.state = .closed ∧ w.seen = 0 then s.markVoid n fun w => { w with noStrokes := true } else s
  | none => s

/-- A deadline that passed while the part was down (R69). -/
def State.voidExpired (s : State) (n : Nat) : State :=
  match s.window? n with
  | some w =>
    if s.deadlinePassed w then (s.raise .sampleExpired).markVoid n fun w => { w with expired := true } else s
  | none => s

/-- The Sample Window Table settles its windows (R69). -/
def State.settleWindows (s : State) : State :=
  let s := s.windows.records.keys.foldl State.voidLostCan s
  s.windows.records.keys.foldl State.voidExpired s

/-- The Delivery Table asks again for a delivery's lost write (R24). -/
def State.askDelivery (s : State) (n : Nat) : State :=
  match s.delivery? n with
  | none => s
  | some d =>
    match d.state with
    | .voiding => s.requestWrite (.delivery n) (.void (d.voidBody n))
    | .settling => s.handOver n
    | .openGross | .queued | .crushed =>
      match d.pendingNet with
      | some p => s.requestWrite (.delivery n) (.tare (d.storedTicket n p))
      | none => s

/-- A final window without SUMMARY_WRITTEN asks again (R69). -/
def State.askWindow (s : State) (n : Nat) : State :=
  match s.window? n with
  | some w =>
    if (w.state = .resulted ∨ w.state = .voided) ∧ w.summaryWritten = false then s.requestWindowRecord n else s
  | none => s

/-- The shift profile unit asks again (R167). -/
def State.askShift (s : State) : State :=
  match s.shift.owed with
  | some (.shift body) => s.requestWrite .shiftUnit (.shift body)
  | some (.season body) => s.requestWrite .shiftUnit (.season body)
  | none => s

/-- A channel asks again (R141). -/
def State.askChannel (s : State) (b : BridgeNo) : State :=
  match (s.channel b).owed with
  | some (.config body) => s.requestWrite (.channel b) (.config body)
  | some (.cal body) => s.requestWrite (.channel b) (.cal body)
  | none => s

/-- The owners ask again for their lost writes, in the order of R182. -/
def State.askAgain (s : State) : State :=
  let s := s.dt.records.keys.foldl State.askDelivery s
  let s := (s.windows.records.keys.foldl State.askWindow s).askShift
  bridgeList.foldl State.askChannel s

/-- A bridge takes its state from the standing conditions (R118). -/
def State.bridgeComesUp (s : State) (b : BridgeNo) : State :=
  match s.firstStanding b with
  | some cause => s.enterLocked b cause none
  | none => s.driveLamps b

/-- STORE ALARM with STORE_LOW or STORE_FAILED when the store comes up so (R181, R202). -/
def State.storeComesUp (s : State) : State :=
  match s.store.state with
  | .normal => s
  | .low => (s.notify (.storeAlarm .low s.free s.store.reserved)).raise .storeLow
  | .failed => (s.notify (.storeAlarm .failed s.free s.store.reserved)).raise .storeFailed

/-! ## The two resets -/

/-- BLANK START (R2, R185): every block at its factory values; the wires keep their levels and the command queue stays.
The command itself is the proof that the memory lacks its format mark, whatever the state's mark shows (DESIGN CHOICE,
log 35). -/
def State.blank (s : State) : State :=
  let raws (f q : Quad Input) : Quad Input :=
    ⟨{ f.q1 with raw := q.q1.raw }, { f.q2 with raw := q.q2.raw }, { f.q3 with raw := q.q3.raw }, { f.q4 with raw := q.q4.raw }⟩
  let f := FieldLines.factory
  let t : State :=
    { bridges := Quad.const (Bridge.factory Profile.factory.zeroInterval)
      channels := Quad.const Channel.factory
      lines := { f with
        e := raws f.e s.lines.e, x := raws f.x s.lines.x
        cp := { f.cp with raw := s.lines.cp.raw }, jp := { f.jp with raw := s.lines.jp.raw }
        wp := { f.wp with raw := s.lines.wp.raw }, tr := { f.tr with raw := s.lines.tr.raw }
        ss := { f.ss with raw := s.lines.ss.raw } }
      dt := { records := [], reserved := 0, counter := 0 }
      vehicles := [], feed := []
      windows := WindowTable.factory MillTime.zeros
      growers := [], shift := ShiftUnit.factory, store := Store.factory, clock := Clock.factory
      link := Link.factory 4 16, pending := s.pending }
  let t := t.raise .blankStart
  let t := bridgeList.foldl (fun t b => t.enterLocked b .unconfigured none) t
  (t.raise .clockUnset).settleLink

/-- RESTART (R2), with formatted memory; memory without its format mark makes it a BLANK START (log 5). -/
def State.restart (s : State) (minutes seconds : Nat) (stopped : Bool) (failing : Nat) : State :=
  if s.store.formatMark = false then s.blank
  else
    let s := s.comeUp minutes seconds stopped
    let r := s.scan failing
    let s := (r.1.recount r.2).settleWindows.askAgain
    let s := (bridgeList.foldl State.bridgeComesUp s).storeComesUp
    s.clockMinute.settleLink

end Sys2Proof.Machine
end

