-- ==== Sys2Proof/Machine/Requests.lean ====
section
/-! DEFINITION. The meanings of the forty request commands: each is the request's whole frame received and taken to its owner (R189; log 6). -/
namespace Sys2Proof.Machine

open Sys2Proof

/-- STATUS (R199). -/
def execStatus (tag : Byte) (s : State) : Host.Outcome State Fault Refusal :=
  .next (s.submit .status tag)

/-- ATTENTION (R201). -/
def execAttention (tag : Byte) (s : State) : Host.Outcome State Fault Refusal :=
  .next (s.submit .attention tag)

/-- LINK SET (R198). -/
def execLinkSet (tag : Byte) (minRun : Nat) (maxRun : Nat) (s : State) : Host.Outcome State Fault Refusal :=
  .next (s.submit (.linkSet minRun maxRun) tag)

/-- TIME SET (R183). -/
def execTimeSet (tag : Byte) (time : MillTime) (s : State) : Host.Outcome State Fault Refusal :=
  .next (s.submit (.timeSet time) tag)

/-- REPORT START (R195). -/
def execReportStart (tag : Byte) (set : Nat) (s : State) : Host.Outcome State Fault Refusal :=
  .next (s.submit (.reportStart set) tag)

/-- REPORT STOP (R197). -/
def execReportStop (tag : Byte) (slot : Nat) (s : State) : Host.Outcome State Fault Refusal :=
  .next (s.submit (.reportStop slot) tag)

/-- BIND (R96). -/
def execBind (tag : Byte) (bridge : Nat) (pass : Nat) (vehicle : Nat) (cls : Nat) (insp : Nat) (wish : Nat) (grower : Nat) (delivery : Nat) (s : State) : Host.Outcome State Fault Refusal :=
  .next (s.submit (.bind bridge pass vehicle cls insp wish grower delivery) tag)

/-- UNBIND (R100). -/
def execUnbind (tag : Byte) (bridge : Nat) (s : State) : Host.Outcome State Fault Refusal :=
  .next (s.submit (.unbind bridge) tag)

/-- BRIDGE QUERY (R116). -/
def execBridgeQuery (tag : Byte) (bridge : Nat) (s : State) : Host.Outcome State Fault Refusal :=
  .next (s.submit (.bridgeQuery bridge) tag)

/-- CLEAR FAULT (R111). -/
def execClearFault (tag : Byte) (bridge : Nat) (s : State) : Host.Outcome State Fault Refusal :=
  .next (s.submit (.clearFault bridge) tag)

/-- ZERO NOW (R107). -/
def execZeroNow (tag : Byte) (bridge : Nat) (s : State) : Host.Outcome State Fault Refusal :=
  .next (s.submit (.zeroNow bridge) tag)

/-- TIP (R16). -/
def execTip (tag : Byte) (delivery : Nat) (s : State) : Host.Outcome State Fault Refusal :=
  .next (s.submit (.tip delivery) tag)

/-- VOID (R19). -/
def execVoidDelivery (tag : Byte) (delivery : Nat) (s : State) : Host.Outcome State Fault Refusal :=
  .next (s.submit (.voidDelivery delivery) tag)

/-- NET FROM STORED (R13). -/
def execNetFromStored (tag : Byte) (delivery : Nat) (s : State) : Host.Outcome State Fault Refusal :=
  .next (s.submit (.netFromStored delivery) tag)

/-- DELIVERY QUERY (R23). -/
def execDeliveryQuery (tag : Byte) (delivery : Nat) (s : State) : Host.Outcome State Fault Refusal :=
  .next (s.submit (.deliveryQuery delivery) tag)

/-- VEHICLE SET (R26). -/
def execVehicleSet (tag : Byte) (vehicle : Nat) (cls : Nat) (s : State) : Host.Outcome State Fault Refusal :=
  .next (s.submit (.vehicleSet vehicle cls) tag)

/-- VEHICLE DROP (R27). -/
def execVehicleDrop (tag : Byte) (vehicle : Nat) (s : State) : Host.Outcome State Fault Refusal :=
  .next (s.submit (.vehicleDrop vehicle) tag)

/-- GROWER SET (R85). -/
def execGrowerSet (tag : Byte) (grower : Nat) (fibre : Nat) (s : State) : Host.Outcome State Fault Refusal :=
  .next (s.submit (.growerSet grower fibre) tag)

/-- GROWER DROP (R86). -/
def execGrowerDrop (tag : Byte) (grower : Nat) (s : State) : Host.Outcome State Fault Refusal :=
  .next (s.submit (.growerDrop grower) tag)

/-- GROWER QUERY (R87). -/
def execGrowerQuery (tag : Byte) (grower : Nat) (s : State) : Host.Outcome State Fault Refusal :=
  .next (s.submit (.growerQuery grower) tag)

/-- SAMPLE CLOSE (R53). -/
def execSampleClose (tag : Byte) (window : Nat) (s : State) : Host.Outcome State Fault Refusal :=
  .next (s.submit (.sampleClose window) tag)

/-- SAMPLE RESULT (R59). -/
def execSampleResult (tag : Byte) (window : Nat) (brix : Nat) (pol : Nat) (s : State) : Host.Outcome State Fault Refusal :=
  .next (s.submit (.sampleResult window brix pol) tag)

/-- SAMPLE VOID (R61). -/
def execSampleVoid (tag : Byte) (window : Nat) (s : State) : Host.Outcome State Fault Refusal :=
  .next (s.submit (.sampleVoid window) tag)

/-- WINDOW QUERY (R67). -/
def execWindowQuery (tag : Byte) (window : Nat) (s : State) : Host.Outcome State Fault Refusal :=
  .next (s.submit (.windowQuery window) tag)

/-- PROFILE LOAD (R158). -/
def execProfileLoad (tag : Byte) (profile : Nat) (entries : List (Nat × Nat)) (s : State) : Host.Outcome State Fault Refusal :=
  .next (s.submit (.profileLoad profile entries) tag)

/-- PROFILE READ (R159). -/
def execProfileRead (tag : Byte) (profile : Nat) (s : State) : Host.Outcome State Fault Refusal :=
  .next (s.submit (.profileRead profile) tag)

/-- SHIFT MARK (R162). -/
def execShiftMark (tag : Byte) (letter : Nat) (s : State) : Host.Outcome State Fault Refusal :=
  .next (s.submit (.shiftMark letter) tag)

/-- SEASON OPEN (R165). -/
def execSeasonOpen (tag : Byte) (s : State) : Host.Outcome State Fault Refusal :=
  .next (s.submit .seasonOpen tag)

/-- CONFIG OPEN (R128). -/
def execConfigOpen (tag : Byte) (channel : Nat) (s : State) : Host.Outcome State Fault Refusal :=
  .next (s.submit (.configOpen channel) tag)

/-- CONFIG SET (R129). -/
def execConfigSet (tag : Byte) (channel : Nat) (entries : List (Nat × Nat)) (s : State) : Host.Outcome State Fault Refusal :=
  .next (s.submit (.configSet channel entries) tag)

/-- CONFIG APPLY (R130). -/
def execConfigApply (tag : Byte) (channel : Nat) (s : State) : Host.Outcome State Fault Refusal :=
  .next (s.submit (.configApply channel) tag)

/-- CONFIG DISCARD (R132). -/
def execConfigDiscard (tag : Byte) (channel : Nat) (s : State) : Host.Outcome State Fault Refusal :=
  .next (s.submit (.configDiscard channel) tag)

/-- CAL BEGIN (R134). -/
def execCalBegin (tag : Byte) (channel : Nat) (s : State) : Host.Outcome State Fault Refusal :=
  .next (s.submit (.calBegin channel) tag)

/-- CAL ZERO (R135). -/
def execCalZero (tag : Byte) (channel : Nat) (s : State) : Host.Outcome State Fault Refusal :=
  .next (s.submit (.calZero channel) tag)

/-- CAL SPAN (R135). -/
def execCalSpan (tag : Byte) (channel : Nat) (mass : Nat) (s : State) : Host.Outcome State Fault Refusal :=
  .next (s.submit (.calSpan channel mass) tag)

/-- CAL END (R137). -/
def execCalEnd (tag : Byte) (channel : Nat) (ending : Nat) (s : State) : Host.Outcome State Fault Refusal :=
  .next (s.submit (.calEnd channel ending) tag)

/-- CAL DEFAULT (R139). -/
def execCalDefault (tag : Byte) (channel : Nat) (s : State) : Host.Outcome State Fault Refusal :=
  .next (s.submit (.calDefault channel) tag)

/-- LINE SET (R155). -/
def execLineSet (tag : Byte) (line : Nat) (entries : List (Nat × Nat)) (s : State) : Host.Outcome State Fault Refusal :=
  .next (s.submit (.lineSet line entries) tag)

/-- STORE READ (R180). -/
def execStoreRead (tag : Byte) (sequence : Nat) (s : State) : Host.Outcome State Fault Refusal :=
  .next (s.submit (.storeRead sequence) tag)

/-- EXPORT MARK (R179). -/
def execExportMark (tag : Byte) (sequence : Nat) (s : State) : Host.Outcome State Fault Refusal :=
  .next (s.submit (.exportMark sequence) tag)

end Sys2Proof.Machine
end

