-- ==== Sys2Proof/Machine/Events.lean ====
section
/-! DEFINITION. The meanings of the twenty-seven event commands: what reaches the part from its line, its wires, its timers, its load cells, its store's write hardware, its clock and its power supply. After each, the link port sends and dispatches what it can (R189, R193). -/
namespace Sys2Proof.Machine

open Sys2Proof

/-- UNKNOWN_REQUEST_KIND (R189): a received frame whose kind is no request kind. -/
def execUnknownRequestKind (kind : Byte) (tag : Byte) (body : List Byte) (s : State) : Host.Outcome State Fault Refusal :=
  .next ((s.receiveFrame { kind := kind, tag := tag, body := body }).settleLink)

/-- FRAME_RECEIVED (R186): the bytes of a whole frame, from its start byte to its second check byte. -/
def execFrameReceived (bytes : List Byte) (s : State) : Host.Outcome State Fault Refusal :=
  .next ((bytes.foldl State.feedByte s).settleLink)

/-- FRAME_BAD_LENGTH (R187): the length byte that follows a start byte. -/
def execFrameBadLength (length : Byte) (s : State) : Host.Outcome State Fault Refusal :=
  .next ((s.badLength length).settleLink)

/-- FRAME_GAP (R187): some bytes of a frame have come, and then more than 20 ms have passed inside it. -/
def execFrameGap (s : State) : Host.Outcome State Fault Refusal :=
  .next (s.gap.settleLink)

/-- TRANSMIT_COMPLETE (R193): the frame on the transmitter has ended. -/
def execTransmitComplete (s : State) : Host.Outcome State Fault Refusal :=
  .next (s.endFrame.settleLink)

/-- RAW_LEVEL_CHANGE (R143): the wire's electrical level, high or low. -/
def execRawLevelChange (line : InputLine) (high : Bool) (s : State) : Host.Outcome State Fault Refusal :=
  .next (State.settleLink (s.setInput line ((s.lines.input line).rawChange high)))

/-- INPUT_HOLD_EXPIRY (R143). -/
def execInputHoldExpiry (line : InputLine) (s : State) : Host.Outcome State Fault Refusal :=
  .next ((s.holdExpired line).settleLink)

/-- CLEAR_HOLD_EXPIRY (R93). -/
def execClearHoldExpiry (bridge : BridgeNo) (s : State) : Host.Outcome State Fault Refusal :=
  .next ((s.clearHoldExpired bridge).settleLink)

/-- BINDING_EXPIRY (R98). -/
def execBindingExpiry (bridge : BridgeNo) (s : State) : Host.Outcome State Fault Refusal :=
  .next ((s.bindExpired bridge).settleLink)

/-- RANGE_PERSISTENCE_EXPIRY (R108). -/
def execRangePersistenceExpiry (bridge : BridgeNo) (kind : RangeKind) (s : State) : Host.Outcome State Fault Refusal :=
  .next ((s.persistenceExpired bridge kind).settleLink)

/-- STROKE_CONFIRM_EXPIRY (R56). -/
def execStrokeConfirmExpiry (s : State) : Host.Outcome State Fault Refusal :=
  .next (s.confirmExpired.settleLink)

/-- SC_PULSE_END (R149). -/
def execScPulseEnd (s : State) : Host.Outcome State Fault Refusal :=
  .next (State.settleLink { s with lines := { s.lines with sc := s.lines.sc.pulseEnd } })

/-- SC_GAP_END (R149). -/
def execScGapEnd (s : State) : Host.Outcome State Fault Refusal :=
  .next (State.settleLink { s with lines := { s.lines with sc := s.lines.sc.gapEnd } })

/-- CAL_STEP_TIMEOUT (R136). -/
def execCalStepTimeout (channel : BridgeNo) (s : State) : Host.Outcome State Fault Refusal :=
  .next ((s.stepTimeout channel).settleLink)

/-- CAL_IDLE_TIMEOUT (R137). -/
def execCalIdleTimeout (channel : BridgeNo) (s : State) : Host.Outcome State Fault Refusal :=
  .next ((s.sessionTimeout channel).settleLink)

/-- MINUTE_EVENT (R184). -/
def execMinuteEvent (s : State) : Host.Outcome State Fault Refusal :=
  .next (s.minute.settleLink)

/-- RUNNING_MINUTES_LIMIT (R51). -/
def execRunningMinutesLimit (s : State) : Host.Outcome State Fault Refusal :=
  .next (s.durationTest.settleLink)

/-- RESULT_DEADLINE_EXPIRY (R60). -/
def execResultDeadlineExpiry (window : Nat) (s : State) : Host.Outcome State Fault Refusal :=
  .next ((s.expireWindow window).settleLink)

/-- ZERO_DEADLINE_EXPIRY (R104). -/
def execZeroDeadlineExpiry (bridge : BridgeNo) (s : State) : Host.Outcome State Fault Refusal :=
  .next ((s.zeroMinute bridge).settleLink)

/-- LOAD_CELL_CONVERSION (R121): the count, and whether the sense lines agree with the excitation (R126). -/
def execLoadCellConversion (channel : BridgeNo) (count : Int) (agree : Bool) (s : State) : Host.Outcome State Fault Refusal :=
  .next ((s.convert channel count agree).settleLink)

/-- STABLE_ENDING (R123): the period in progress has reached its length without a stray reading. -/
def execStableEnding (channel : BridgeNo) (s : State) : Host.Outcome State Fault Refusal :=
  .next ((s.periodStable channel).settleLink)

/-- WIRE_OFF_RAISE (R126): the run of failing sense checks has reached 5. -/
def execWireOffRaise (channel : BridgeNo) (s : State) : Host.Outcome State Fault Refusal :=
  .next ((s.wireOffRun channel).settleLink)

/-- WIRE_OFF_CLEAR (R126): the run of passing sense checks has reached 100. -/
def execWireOffClear (channel : BridgeNo) (s : State) : Host.Outcome State Fault Refusal :=
  .next ((s.wireClearRun channel).settleLink)

/-- WRITE_COMPLETE (R176): the verify of the write in flight has passed. -/
def execWriteComplete (s : State) : Host.Outcome State Fault Refusal :=
  .next (s.completeWrite.settleLink)

/-- VERIFY_FAILURE (R177): the verify of the write in flight has failed. -/
def execVerifyFailure (s : State) : Host.Outcome State Fault Refusal :=
  .next (s.failVerify.settleLink)

/-- RESTART (R2, R181, R184): how many minute-counter advances and seconds of the mill clock fell while the part was
down, whether the backup timebase stopped, and how many next good slots fail the scan's test in turn. -/
def execRestart (minutesDown : Nat) (secondsDown : Nat) (timebaseStopped : Bool) (failingSlots : Nat) (s : State) : Host.Outcome State Fault Refusal :=
  .next (s.restart minutesDown secondsDown timebaseStopped failingSlots)

/-- BLANK_START (R185): power-up or the RESET pin while the memory lacks its format mark. The state's own mark is not
read: the command stands for power applied to such a memory (DESIGN CHOICE, log 35). -/
def execBlankStart (s : State) : Host.Outcome State Fault Refusal :=
  .next (s.blank)

end Sys2Proof.Machine
end

