-- ==== Sys2Proof/Machine/Dispatch.lean ====
section
/-! DEFINITION. The dispatch: one arm for each command, each one direct call of the command's meaning. -/
namespace Sys2Proof.Machine

open Sys2Proof

def exec (i : Instr) (s : State) : Host.Outcome State Fault Refusal :=
  match i with
  | .status tag => Sys2Proof.Machine.execStatus tag s
  | .attention tag => Sys2Proof.Machine.execAttention tag s
  | .linkSet tag minRun maxRun => Sys2Proof.Machine.execLinkSet tag minRun maxRun s
  | .timeSet tag time => Sys2Proof.Machine.execTimeSet tag time s
  | .reportStart tag set => Sys2Proof.Machine.execReportStart tag set s
  | .reportStop tag slot => Sys2Proof.Machine.execReportStop tag slot s
  | .bind tag bridge pass vehicle cls insp wish grower delivery => Sys2Proof.Machine.execBind tag bridge pass vehicle cls insp wish grower delivery s
  | .unbind tag bridge => Sys2Proof.Machine.execUnbind tag bridge s
  | .bridgeQuery tag bridge => Sys2Proof.Machine.execBridgeQuery tag bridge s
  | .clearFault tag bridge => Sys2Proof.Machine.execClearFault tag bridge s
  | .zeroNow tag bridge => Sys2Proof.Machine.execZeroNow tag bridge s
  | .tip tag delivery => Sys2Proof.Machine.execTip tag delivery s
  | .voidDelivery tag delivery => Sys2Proof.Machine.execVoidDelivery tag delivery s
  | .netFromStored tag delivery => Sys2Proof.Machine.execNetFromStored tag delivery s
  | .deliveryQuery tag delivery => Sys2Proof.Machine.execDeliveryQuery tag delivery s
  | .vehicleSet tag vehicle cls => Sys2Proof.Machine.execVehicleSet tag vehicle cls s
  | .vehicleDrop tag vehicle => Sys2Proof.Machine.execVehicleDrop tag vehicle s
  | .growerSet tag grower fibre => Sys2Proof.Machine.execGrowerSet tag grower fibre s
  | .growerDrop tag grower => Sys2Proof.Machine.execGrowerDrop tag grower s
  | .growerQuery tag grower => Sys2Proof.Machine.execGrowerQuery tag grower s
  | .sampleClose tag window => Sys2Proof.Machine.execSampleClose tag window s
  | .sampleResult tag window brix pol => Sys2Proof.Machine.execSampleResult tag window brix pol s
  | .sampleVoid tag window => Sys2Proof.Machine.execSampleVoid tag window s
  | .windowQuery tag window => Sys2Proof.Machine.execWindowQuery tag window s
  | .profileLoad tag profile entries => Sys2Proof.Machine.execProfileLoad tag profile entries s
  | .profileRead tag profile => Sys2Proof.Machine.execProfileRead tag profile s
  | .shiftMark tag letter => Sys2Proof.Machine.execShiftMark tag letter s
  | .seasonOpen tag => Sys2Proof.Machine.execSeasonOpen tag s
  | .configOpen tag channel => Sys2Proof.Machine.execConfigOpen tag channel s
  | .configSet tag channel entries => Sys2Proof.Machine.execConfigSet tag channel entries s
  | .configApply tag channel => Sys2Proof.Machine.execConfigApply tag channel s
  | .configDiscard tag channel => Sys2Proof.Machine.execConfigDiscard tag channel s
  | .calBegin tag channel => Sys2Proof.Machine.execCalBegin tag channel s
  | .calZero tag channel => Sys2Proof.Machine.execCalZero tag channel s
  | .calSpan tag channel mass => Sys2Proof.Machine.execCalSpan tag channel mass s
  | .calEnd tag channel ending => Sys2Proof.Machine.execCalEnd tag channel ending s
  | .calDefault tag channel => Sys2Proof.Machine.execCalDefault tag channel s
  | .lineSet tag line entries => Sys2Proof.Machine.execLineSet tag line entries s
  | .storeRead tag sequence => Sys2Proof.Machine.execStoreRead tag sequence s
  | .exportMark tag sequence => Sys2Proof.Machine.execExportMark tag sequence s
  | .unknownRequestKind kind tag body => Sys2Proof.Machine.execUnknownRequestKind kind tag body s
  | .frameReceived bytes => Sys2Proof.Machine.execFrameReceived bytes s
  | .frameBadLength length => Sys2Proof.Machine.execFrameBadLength length s
  | .frameGap => Sys2Proof.Machine.execFrameGap s
  | .transmitComplete => Sys2Proof.Machine.execTransmitComplete s
  | .rawLevelChange line high => Sys2Proof.Machine.execRawLevelChange line high s
  | .inputHoldExpiry line => Sys2Proof.Machine.execInputHoldExpiry line s
  | .clearHoldExpiry bridge => Sys2Proof.Machine.execClearHoldExpiry bridge s
  | .bindingExpiry bridge => Sys2Proof.Machine.execBindingExpiry bridge s
  | .rangePersistenceExpiry bridge kind => Sys2Proof.Machine.execRangePersistenceExpiry bridge kind s
  | .strokeConfirmExpiry => Sys2Proof.Machine.execStrokeConfirmExpiry s
  | .scPulseEnd => Sys2Proof.Machine.execScPulseEnd s
  | .scGapEnd => Sys2Proof.Machine.execScGapEnd s
  | .calStepTimeout channel => Sys2Proof.Machine.execCalStepTimeout channel s
  | .calIdleTimeout channel => Sys2Proof.Machine.execCalIdleTimeout channel s
  | .minuteEvent => Sys2Proof.Machine.execMinuteEvent s
  | .runningMinutesLimit => Sys2Proof.Machine.execRunningMinutesLimit s
  | .resultDeadlineExpiry window => Sys2Proof.Machine.execResultDeadlineExpiry window s
  | .zeroDeadlineExpiry bridge => Sys2Proof.Machine.execZeroDeadlineExpiry bridge s
  | .loadCellConversion channel count agree => Sys2Proof.Machine.execLoadCellConversion channel count agree s
  | .stableEnding channel => Sys2Proof.Machine.execStableEnding channel s
  | .wireOffRaise channel => Sys2Proof.Machine.execWireOffRaise channel s
  | .wireOffClear channel => Sys2Proof.Machine.execWireOffClear channel s
  | .writeComplete => Sys2Proof.Machine.execWriteComplete s
  | .verifyFailure => Sys2Proof.Machine.execVerifyFailure s
  | .restart minutesDown secondsDown timebaseStopped failingSlots => Sys2Proof.Machine.execRestart minutesDown secondsDown timebaseStopped failingSlots s
  | .blankStart => Sys2Proof.Machine.execBlankStart s

end Sys2Proof.Machine
end

