-- ==== Sys2Proof/WellFormed.lean ====
section
/-! DEFINITION. Which commands are well formed: every field fits the place the frame gives it (R203, R204), and every event's operands are such as the event can carry. -/
namespace Sys2Proof

/-- A field of `n` bytes (R203). -/
def fits (n v : Nat) : Bool := decide (v < 256 ^ n)

/-- The request kinds of R203's table. -/
def requestKinds : List Nat :=
  [0x10, 0x11, 0x12, 0x13, 0x18, 0x19, 0x20, 0x21, 0x22, 0x23, 0x24, 0x28, 0x29, 0x2A, 0x2B, 0x2C, 0x2D,
   0x30, 0x31, 0x32, 0x38, 0x39, 0x3A, 0x3B, 0x40, 0x41, 0x42, 0x43, 0x48, 0x49, 0x4A, 0x4B, 0x4C, 0x4D,
   0x4E, 0x4F, 0x50, 0x51, 0x58, 0x59]

/-- Entries of a field-list body: a one-byte id and a value of `w` bytes, few enough for a frame (R203). -/
def entriesFit (w most : Nat) (es : List (Nat × Nat)) : Bool :=
  decide (es.length ≤ most) && es.all fun e => fits 1 e.1 && fits w e.2

/-- A mill time as six bytes: the year less 2000, then the rest (R203). -/
def timeFits (t : MillTime) : Bool :=
  decide (2000 ≤ t.year) && decide (t.year < 2256) && fits 1 t.month && fits 1 t.day && fits 1 t.hour &&
    fits 1 t.minute && fits 1 t.second

/-- The bytes of one whole frame: start byte, a length byte L of 2 to 250, and L + 2 further bytes (R186). -/
def wholeFrame : List Byte → Bool
  | s :: l :: rest => s == 0xA5 && decide (2 ≤ l.toNat) && decide (l.toNat ≤ 250) && rest.length == l.toNat + 2
  | _ => false

/-- Well-formedness of a command. -/
def wellFormed : Instr → Bool
  | .status _ => true
  | .attention _ => true
  | .linkSet _ a b => fits 1 a && fits 1 b
  | .timeSet _ t => timeFits t
  | .reportStart _ a => fits 1 a
  | .reportStop _ a => fits 1 a
  | .bind _ b p v c i w g d =>
      fits 1 b && fits 1 p && fits 2 v && fits 1 c && fits 1 i && fits 1 w && fits 2 g && fits 4 d
  | .unbind _ b => fits 1 b
  | .bridgeQuery _ b => fits 1 b
  | .clearFault _ b => fits 1 b
  | .zeroNow _ b => fits 1 b
  | .tip _ d => fits 4 d
  | .voidDelivery _ d => fits 4 d
  | .netFromStored _ d => fits 4 d
  | .deliveryQuery _ d => fits 4 d
  | .vehicleSet _ v c => fits 2 v && fits 1 c
  | .vehicleDrop _ v => fits 2 v
  | .growerSet _ g f => fits 2 g && fits 2 f
  | .growerDrop _ g => fits 2 g
  | .growerQuery _ g => fits 2 g
  | .sampleClose _ w => fits 4 w
  | .sampleResult _ w b p => fits 4 w && fits 2 b && fits 2 p
  | .sampleVoid _ w => fits 4 w
  | .windowQuery _ w => fits 4 w
  | .profileLoad _ p es => fits 1 p && entriesFit 4 49 es
  | .profileRead _ p => fits 1 p
  | .shiftMark _ l => fits 1 l
  | .seasonOpen _ => true
  | .configOpen _ c => fits 1 c
  | .configSet _ c es => fits 1 c && entriesFit 4 49 es
  | .configApply _ c => fits 1 c
  | .configDiscard _ c => fits 1 c
  | .calBegin _ c => fits 1 c
  | .calZero _ c => fits 1 c
  | .calSpan _ c m => fits 1 c && fits 4 m
  | .calEnd _ c e => fits 1 c && fits 1 e
  | .calDefault _ c => fits 1 c
  | .lineSet _ l es => fits 1 l && entriesFit 2 82 es
  | .storeRead _ n => fits 4 n
  | .exportMark _ n => fits 4 n
  | .unknownRequestKind k _ body => !requestKinds.contains k.toNat && decide (body.length ≤ 248)
  | .frameReceived bytes => wholeFrame bytes
  | .frameBadLength l => decide (l.toNat < 2) || decide (250 < l.toNat)
  | .frameGap => true
  | .transmitComplete => true
  | .rawLevelChange _ _ => true
  | .inputHoldExpiry _ => true
  | .clearHoldExpiry _ => true
  | .bindingExpiry _ => true
  | .rangePersistenceExpiry _ _ => true
  | .strokeConfirmExpiry => true
  | .scPulseEnd => true
  | .scGapEnd => true
  | .calStepTimeout _ => true
  | .calIdleTimeout _ => true
  | .minuteEvent => true
  | .runningMinutesLimit => true
  | .resultDeadlineExpiry w => fits 4 w
  | .zeroDeadlineExpiry _ => true
  | .loadCellConversion _ n _ => decide (-8388608 ≤ n) && decide (n ≤ 8388607)
  | .stableEnding _ => true
  | .wireOffRaise _ => true
  | .wireOffClear _ => true
  | .writeComplete => true
  | .verifyFailure => true
  | .restart m sec _ f => decide (sec / 60 ≤ m) && decide (m ≤ sec / 60 + 1) && decide (f ≤ 4096)
  | .blankStart => true

end Sys2Proof
end

