-- ==== Sys2Proof/Safety.lean ====
section
/-! DEFINITION. What counts as a safe run, the invariants of the part, and the words the statements use for what a host meets at the mill link. -/
namespace Sys2Proof.Machine

open Sys2Proof

/-! ## Safe runs and invariants -/

/-- A state is safe when its next step ends in a state: no step of this model ends in a fault or a refusal. -/
def State.safe (s : State) : Prop := ∃ t, step s = .next t

/-- Every keyed table stands in its canonical form: keys strictly rising, so that a key names at most one record
(R3, R25, R46, R84, R168). -/
def State.canonical (s : State) : Prop :=
  s.dt.records.wf ∧ Table.wf s.vehicles ∧ s.windows.records.wf ∧ Table.wf s.growers ∧ s.store.slots.wf

/-- Exactly one window is OPEN: the one whose number the window-number counter holds; no window has a higher number
(R47). -/
def State.oneOpenWindow (s : State) : Prop :=
  (∃ w, s.window? s.windows.counter = some w ∧ w.state = .opened) ∧
  ∀ n w, s.window? n = some w → n ≤ s.windows.counter ∧ (w.state = .opened → n = s.windows.counter)

/-- A delivery's parts (R4): they add up to its crushed mass, there are at most eight, and while it is OPEN_GROSS there
are none, and no queue mass to take any (R9, R15). -/
def Delivery.partsSound (d : Delivery) : Prop :=
  (d.parts.map (·.kg)).sum = d.crushed ∧ d.parts.length ≤ Config.partsCapacity ∧
    (d.state = .openGross → d.parts = [] ∧ d.queueMass = 0)

/-- Every delivery's parts are sound (R4). -/
def State.partsSound (s : State) : Prop := ∀ n d, s.delivery? n = some d → d.partsSound

/-- The masses of a window (R38). -/
def Window.balanced (w : Window) : Prop := w.cane = w.attributed + w.folded + w.orphan

/-- AL is on while an alarm-class flag stands, and off while none does (R153). -/
def State.beaconSound (s : State) : Prop := s.lines.al = s.link.flags.alarm

/-- The link's buffers keep within their places (R188, R189, R192). -/
def State.buffersSound (s : State) : Prop :=
  s.link.input.length ≤ Config.bufferCapacity ∧ s.link.replies.length ≤ Config.bufferCapacity ∧
    s.link.notices.length ≤ Config.noticeCapacity

/-- The turn is held as R194 has it: no stream is active without one being held; the slot that holds it has an active
stream, or its last stream's REPORT END is on the line; and a report frame that counts, counts for the turn. -/
def Link.turnSound (l : Link) : Prop :=
  (l.turn = none → l.slot1 = none ∧ l.slot2 = none) ∧
  (∀ t, l.turn = some t → (l.stream t.slot).isSome = true ∨ l.endOnLine t.slot = true) ∧
  (∀ f m, l.sending = some f → f.mark = some m → ∃ k, l.turn = some ⟨m.slot, k⟩)

/-- No bridge is IDLE with a vehicle judged present, and a LOCKED bridge has its cause (R94, R108). -/
def State.bridgesSound (s : State) : Prop :=
  ∀ b, ((s.bridge b).state = .idle → (s.bridge b).present = false) ∧
    ((s.bridge b).state = .locked → (s.bridge b).lockCause.isSome = true)

/-- A lamp shows what its bridge demands (R114, R152): ON and OFF as they are; under the SAFE demand its safe value,
except that a lamp whose safe value is HOLD may show either. -/
def Lamp.shows (l : Lamp) (d : LampDemand) : Prop :=
  match d, l.safe with
  | .on, _ => l.on = true
  | .off, _ => l.on = false
  | .safe, .on => l.on = true
  | .safe, .off => l.on = false
  | .safe, .hold => True

/-- Every lamp shows its bridge's demand (R114, R152). -/
def State.lampsSound (s : State) : Prop :=
  ∀ b, (s.lines.entryLamp.get b).shows (entryDemand (s.bridge b)) ∧ (s.lines.exitLamp.get b).shows (exitDemand (s.bridge b))

/-! ## What the host meets at the mill link -/

/-- A request is taken to its owner at once: no frame waits before it, and the reply list has room (R188, R189). -/
def State.ready (s : State) : Prop := s.link.input = [] ∧ s.link.replies.length < Config.bufferCapacity

/-- The end of a step that took a request: its OK reply is placed, and the port sends what it can (R189, R193). -/
def State.okReply (t : State) (kind tag : Byte) (content : ReplyContent) : State :=
  (t.placeReply { kind := kind, tag := tag, code := .ok, content := content }).settleLink

/-- The end of a step that refused a request: the state as it was, with the refusal placed (R190, R193). -/
def State.refusal (s : State) (kind tag : Byte) (code : ResultCode) : State :=
  (s.placeReply { kind := kind, tag := tag, code := code, content := .none }).settleLink

/-- A request as the command that carries it. -/
def Request.command (tag : Byte) : Request → Instr
  | .status => .status tag
  | .attention => .attention tag
  | .linkSet a b => .linkSet tag a b
  | .timeSet t => .timeSet tag t
  | .reportStart a => .reportStart tag a
  | .reportStop a => .reportStop tag a
  | .bind b p v c i w g d => .bind tag b p v c i w g d
  | .unbind b => .unbind tag b
  | .bridgeQuery b => .bridgeQuery tag b
  | .clearFault b => .clearFault tag b
  | .zeroNow b => .zeroNow tag b
  | .tip d => .tip tag d
  | .voidDelivery d => .voidDelivery tag d
  | .netFromStored d => .netFromStored tag d
  | .deliveryQuery d => .deliveryQuery tag d
  | .vehicleSet v c => .vehicleSet tag v c
  | .vehicleDrop v => .vehicleDrop tag v
  | .growerSet g f => .growerSet tag g f
  | .growerDrop g => .growerDrop tag g
  | .growerQuery g => .growerQuery tag g
  | .sampleClose w => .sampleClose tag w
  | .sampleResult w b p => .sampleResult tag w b p
  | .sampleVoid w => .sampleVoid tag w
  | .windowQuery w => .windowQuery tag w
  | .profileLoad p es => .profileLoad tag p es
  | .profileRead p => .profileRead tag p
  | .shiftMark l => .shiftMark tag l
  | .seasonOpen => .seasonOpen tag
  | .configOpen c => .configOpen tag c
  | .configSet c es => .configSet tag c es
  | .configApply c => .configApply tag c
  | .configDiscard c => .configDiscard tag c
  | .calBegin c => .calBegin tag c
  | .calZero c => .calZero tag c
  | .calSpan c m => .calSpan tag c m
  | .calEnd c e => .calEnd tag c e
  | .calDefault c => .calDefault tag c
  | .lineSet l es => .lineSet tag l es
  | .storeRead n => .storeRead tag n
  | .exportMark n => .exportMark tag n

/-! ## What the statements say of lines, masses and sums -/

/-- The state once a line's filtered level has become its raw level, before anything is delivered (R143). -/
def State.levelTaken (s : State) (line : InputLine) : State :=
  s.setInput line { s.lines.input line with filtered := some (s.lines.input line).raw, hold := none, steady := 0 }

/-- A line's hold timer runs on a settled, inactive level while its wire stands at the active one, so that the timer's
end is a filtered active edge (R143, R144). -/
def State.edgeDue (s : State) (line : InputLine) : Prop :=
  (s.lines.input line).level = some false ∧ (s.lines.input line).hold.isSome = true ∧
    (s.lines.input line).filtered ≠ some (s.lines.input line).raw

/-! ## What the statements say of a write's completion -/

/-- The store once the write in flight has completed: its record held and exposed, its reservation consumed (R169,
R176). -/
def Store.completed (x : Store) (f : InFlight) : Store :=
  { x with
      slots := Table.put x.slots f.slot f.record, lastSequence := f.record.sequence, lastSlot := f.slot
      reserved := x.reserved - 1, inFlight := none }

/-- A write is in flight and nothing else waits to be written (R173, R174). -/
def State.loneWrite (s : State) (f : InFlight) : Prop :=
  s.store.state ≠ .failed ∧ s.store.inFlight = some f ∧ s.store.tickets = ⟨none, none, none, none⟩ ∧
    s.store.shared = [] ∧ s.store.waiting = []

/-- A step's outcome is what the port's end of the step makes of a link as given: the notices made in the step stand
in that link, and the idle transmitter then takes its next frame (R191, R193). -/
def State.endsLink (t : State) (l : Link) : Prop := ∃ u : State, t = u.settleLink ∧ u.link = l

/-- A sum that a 32-bit figure holds. -/
def fits32 (n : Nat) : Prop := n ≤ Config.max32

end Sys2Proof.Machine
end

