-- ==== Sys2Proof/Certificates/Slice0/Obligations.lean ====
section
/-! DEFINITION. The statements for the provers: the queue and the step, the invariants that every step keeps, the mill link, and then the commands block by block. A statement about a request takes the port as ready (`State.ready`); `RefusedAndWaitingRequestsChangeNothing` says what happens where it is not. Every next state is written out in full, so that all it does not name stands as it was. -/

open Sys2Proof Sys2Proof.Machine

/-! ## The queue and the step -/

/-- The command at the front of the queue is taken, and its meaning run with the queue's rest (log 1, log 6). -/
def Obligations.StepRunsTheFrontCommand : Prop :=
  ∀ (s : State) (c : Instr) (rest : List Instr),
    s.pending = c :: rest → step s = exec c { s with pending := rest }

/-- On an empty queue one millisecond passes (log 1, the model's choice): every running timer falls by one, every hold
timer rises by one, as does the time for which an unsettled line's level has held, the mill clock runs by its calendar
when it is set, and nothing else changes. -/
def Obligations.IdleStepLetsAMillisecondPass : Prop :=
  ∀ s : State, s.pending = [] → ∃ t, step s = .next t ∧
    (t.dt = s.dt ∧ t.vehicles = s.vehicles ∧ t.feed = s.feed ∧ t.windows = s.windows ∧ t.growers = s.growers ∧
      t.shift = s.shift ∧ t.store = s.store ∧ t.link = s.link ∧ t.pending = []) ∧
    t.clock.minutes = s.clock.minutes ∧ t.clock.isSet = s.clock.isSet ∧
    (s.clock.ms < 999 → t.clock.ms = s.clock.ms + 1 ∧ t.clock.reading = s.clock.reading) ∧
    (s.clock.ms = 999 → t.clock.ms = 0 ∧
      t.clock.reading = if s.clock.isSet then nextSecond s.clock.reading else s.clock.reading) ∧
    (∀ b, t.bridge b = { s.bridge b with
      bindTimer := (s.bridge b).bindTimer.map (· - 1), clearHold := (s.bridge b).clearHold.map (· - 1)
      overTimer := (match (s.bridge b).overTimer with | .running n => .running (n - 1) | p => p)
      underTimer := (match (s.bridge b).underTimer with | .running n => .running (n - 1) | p => p) }) ∧
    (∀ b, t.channel b = { s.channel b with
      session := (s.channel b).session.map fun x => { x with
        step := x.step.map fun k => { k with left := k.left - 1 }, idle := x.idle.map (· - 1) } }) ∧
    (∀ line, t.lines.input line = { s.lines.input line with
      hold := (s.lines.input line).hold.map (· + 1)
      steady := (s.lines.input line).steady + if (s.lines.input line).filtered = none then 1 else 0 }) ∧
    t.lines.command = s.lines.command.map (fun c => { c with left := c.left - 1 }) ∧
    t.lines.sc = (match s.lines.sc with | .off => .off | .gap n => .gap (n - 1) | .on n => .on (n - 1)) ∧
    (t.lines.al = s.lines.al ∧ t.lines.entryLamp = s.lines.entryLamp ∧ t.lines.exitLamp = s.lines.exitLamp ∧
      t.lines.cpMass = s.lines.cpMass ∧ t.lines.jpMass = s.lines.jpMass ∧ t.lines.wpMass = s.lines.wpMass)

/-- No step ends in a fault or a refusal, and a command leaves the rest of the queue as it was. -/
def Obligations.EveryStepEndsInAState : Prop :=
  ∀ s : State, s.safe ∧ ∀ (c : Instr) (rest : List Instr) (t : State),
    s.pending = c :: rest → step s = .next t → t.pending = rest

/-! ## Invariants that every step keeps -/

/-- Every step keeps every keyed table in its canonical form: a key names at most one record (R3, R25, R46, R84, R168). -/
def Obligations.CanonicalTablesAreKept : Prop :=
  ∀ s t : State, s.canonical → step s = .next t → t.canonical

/-- Every step keeps exactly one window OPEN, the one whose number the window-number counter holds (R47; that it is the
counter's is log 24). -/
def Obligations.OneWindowStaysOpen : Prop :=
  ∀ s t : State, s.oneOpenWindow → step s = .next t → t.oneOpenWindow

/-- Every step keeps each delivery's parts list: its masses add up to the crushed mass, it has at most eight parts, and
none, with no queue mass, while the delivery is OPEN_GROSS (R4, R9, R15, R36). -/
def Obligations.PartsAddUpToTheCrushedMass : Prop :=
  ∀ s t : State, s.canonical → s.partsSound → step s = .next t → t.partsSound

/-- Every step keeps AL on exactly while an alarm-class attention flag stands (R153). Every step keeps a bridge from
standing IDLE with a vehicle judged present, and a LOCKED bridge with its cause (R94, R108). Every step keeps every
lamp at what its bridge demands (R114, R152). -/
def Obligations.BridgesLampsAndBeaconStaySound : Prop :=
  (∀ s t : State, s.beaconSound → step s = .next t → t.beaconSound) ∧
  (∀ s t : State, s.bridgesSound → step s = .next t → t.bridgesSound) ∧
  (∀ s t : State, s.lampsSound → step s = .next t → t.lampsSound)

/-- Every step keeps the input buffer and the reply list within 4 places and the notice queue within 24 (R188, R189,
R192). After every command the transmitter is idle only when no reply waits, no active stream holds the turn and, while
no turn is held, no notice waits. Every step keeps the turn held by a stream: an active one, or one whose REPORT END is
on the line (R194; logs 18, 43). While it is so, the transmitter is idle after a command only when no stream is active and no
reply or notice waits (R193). -/
def Obligations.LinkBuffersAndTransmitterStaySound : Prop :=
  (∀ s t : State, s.buffersSound → step s = .next t → t.buffersSound) ∧
  (∀ (c : Instr) (s t : State), exec c s = .next t → t.link.sending = none →
     t.link.replies = [] ∧ (t.link.turn = none → t.link.notices = []) ∧
       (∀ u, t.link.turn = some u → t.link.stream u.slot = none)) ∧
  (∀ s t : State, s.link.turnSound → step s = .next t → t.link.turnSound) ∧
  (∀ (c : Instr) (s t : State), s.link.turnSound → exec c s = .next t → t.link.sending = none →
     t.link.replies = [] ∧ t.link.notices = [] ∧ t.link.slot1 = none ∧ t.link.slot2 = none)

/-! ## The mill link -/

/-- Every well-formed request comes back from the frame that carries it, with every field at every value its place holds
(R189, R203, R204). -/
def Obligations.RequestsSurviveTheirFrames : Prop :=
  ∀ (r : Request) (tag : Byte), wellFormed (r.command tag) = true → decodeRequest (requestFrame r tag) = .ok r

/-- FRAME_RECEIVED with the whole frame of a well-formed request, at a ready port that hunts and has nothing it could
send: the request is taken to its owner and answered, exactly as its own command is (R186, R188, R189, R203). -/
def Obligations.WholeFramesActAsTheirRequests : Prop :=
  ∀ (s : State) (r : Request) (tag : Byte), wellFormed (r.command tag) = true → s.ready → s.pump = s →
    s.link.receiver = .hunting →
    let bytes := frameBytes (BitVec.ofNat 8 (requestKind r)) tag (requestBody r)
    exec (.frameReceived bytes) s =
      .next (s.answer (BitVec.ofNat 8 (requestKind r)) tag (decideRequest r tag s)).settleLink ∧
    exec (.frameReceived bytes) s = exec (r.command tag) s

/-- UNKNOWN_REQUEST_KIND at a ready port: the reply has kind 0xFF, the frame's tag, BAD_KIND and the kind received, and
nothing but the port's sending changes (R189, R203). A length byte outside 2 to 250, a gap inside a frame and a check
that disagrees each discard the frame and raise FRAME_ERROR, and the receiver hunts (R187; that FRAME_GAP at a hunting
receiver brings the frame's start with it is log 6). -/
def Obligations.BadFramesAreAnsweredOrDiscarded : Prop :=
  (∀ (s : State) (kind tag : Byte) (body : List Byte), s.ready → wellFormed (.unknownRequestKind kind tag body) = true →
     exec (.unknownRequestKind kind tag body) s =
       .next (s.pump.placeReply { kind := 0xFF, tag := tag, code := .badKind, content := .kindReceived kind }).pump) ∧
  (∀ s : State,
     (∀ l : Byte, l.toNat < 2 ∨ 250 < l.toNat → s.link.receiver = .hunting ∨ s.link.receiver = .length →
       exec (.frameBadLength l) s = .next (((s.setReceiver .hunting).raise .frameError).settleLink)) ∧
     exec .frameGap s = .next (((s.setReceiver .hunting).raise .frameError).settleLink) ∧
     (∀ bytes : List Byte, wholeFrame bytes = true → frameOfBytes bytes.tail = none → s.link.receiver = .hunting →
       exec (.frameReceived bytes) s = .next ((s.raise .frameError).settleLink)))

/-- A refused request leaves the state as it was, but for its reply and what the port sends: the reply has the request's
kind plus 0x80, its tag and the result code alone (R189, R190). While a frame is being sent and the reply list is
full, a request's frame waits in the input buffer, and where the buffer is full it is discarded and INPUT_OVERRUN is
raised (R188, R189). -/
def Obligations.RefusedAndWaitingRequestsChangeNothing : Prop :=
  (∀ (s : State) (r : Request) (tag : Byte) (code : ResultCode), s.ready → decideRequest r tag s = .refuse code →
     exec (r.command tag) s = .next (s.placeReply
       { kind := BitVec.ofNat 8 (requestKind r) + 0x80, tag := tag, code := code, content := .none }).pump) ∧
  (∀ (s : State) (r : Request) (tag : Byte), s.link.sending.isSome = true →
     Config.bufferCapacity ≤ s.link.replies.length →
     exec (r.command tag) s = .next
       (if s.link.input.length < Config.bufferCapacity then
         { s with link := { s.link with input := s.link.input ++ [requestFrame r tag] } }
       else s.raise .inputOverrun))

/-- A notice takes the next number and the tail of the queue; a full queue gives up its oldest ordinary notice to an
alarm, and drops any other, and each drop raises NOTICE_LOST (R191, R192). -/
def Obligations.NoticesTakeTheirPlaceInTheQueue : Prop :=
  ∀ (s : State) (body : NoticeBody),
    let numbered : State := { s with link := { s.link with noticeNumber := s.link.noticeNumber + 1 } }
    let made : Notice := ⟨s.link.noticeNumber + 1, body⟩
    (s.link.notices.length < 24 →
      s.notify body = { numbered with link := { numbered.link with notices := s.link.notices ++ [made] } }) ∧
    (24 ≤ s.link.notices.length → body.isAlarm = false → s.notify body = numbered.raise .noticeLost) ∧
    (24 ≤ s.link.notices.length → body.isAlarm = true → (∀ n ∈ s.link.notices, n.body.isAlarm = true) →
      s.notify body = numbered.raise .noticeLost) ∧
    (∀ (older newer : List Notice) (n : Notice), s.link.notices = older ++ n :: newer → 24 ≤ s.link.notices.length →
      body.isAlarm = true → n.body.isAlarm = false → (∀ m ∈ older, m.body.isAlarm = true) →
      s.notify body =
        State.raise { numbered with link := { numbered.link with notices := older ++ newer ++ [made] } } .noticeLost)

/-- The arbiter's order at an idle transmitter: the oldest reply; else the oldest alarm notice; else the oldest ordinary
notice, unless the stream with the turn has sent fewer than min run frames in it; else the next frame of that
stream; and with nothing of these, nothing (R193). A stream's next frame: of a stream cut by SEASON OPEN, a REPORT END
with its item count and CUT; else a REPORT ITEM with the first record of its table, which stands in rising key order,
above the last key sent, its index one above the item count, which rises with it; with no such record a REPORT END with
the item count and COMPLETE. A REPORT END frees the slot (R196, R197). -/
def Obligations.ArbiterChoosesInOrder : Prop :=
  (∀ s : State, s.link.sending = none →
    (∀ r rest, s.link.replies = r :: rest →
      s.pump = State.transmit { s with link := { s.link with replies := rest } } (.reply r) none) ∧
    (s.link.replies = [] → ∀ older n newer, s.link.notices = older ++ n :: newer → n.body.isAlarm = true →
      (∀ m ∈ older, m.body.isAlarm = false) →
      s.pump = State.transmit { s with link := { s.link with notices := older ++ newer } } (.notice n) none) ∧
    (s.link.replies = [] → (∀ m ∈ s.link.notices, m.body.isAlarm = false) → s.link.holdsBack = false →
      ∀ n rest, s.link.notices = n :: rest →
      s.pump = State.transmit { s with link := { s.link with notices := rest } } (.notice n) none) ∧
    (s.link.replies = [] → (∀ m ∈ s.link.notices, m.body.isAlarm = false) →
      s.link.holdsBack = true ∨ s.link.notices = [] →
      ∀ t x, s.link.turn = some t → s.link.stream t.slot = some x → s.pump = s.sendReport t.slot x) ∧
    (s.link.replies = [] → s.link.notices = [] → s.link.turn = none → s.pump = s)) ∧
  (∀ (s : State) (n : SlotNo) (x : Stream),
    let ended (cut : Bool) : State :=
      State.transmit { s with link := s.link.setStream n none } (.finish x.tag n x.count cut) (some ⟨n, true⟩)
    let sent (key : Nat) (r : ItemRecord) : State :=
      State.transmit
        { s with link := s.link.setStream n (some { x with lastKey := some key, count := x.count + 1 }) }
        (.item x.tag n (x.count + 1) x.set r) (some ⟨n, false⟩)
    let due (key : Nat) : Prop := ∀ last, x.lastKey = some last → last < key
    (x.cut = true → s.sendReport n x = ended true) ∧
    (x.cut = false → x.set = .growers →
      ((∀ p ∈ s.growers, ¬ due p.1) → s.sendReport n x = ended false) ∧
      (∀ older k g newer, s.growers = older ++ (k, g) :: newer → (∀ p ∈ older, ¬ due p.1) → due k →
        s.sendReport n x = sent k (.grower k g))) ∧
    (x.cut = false → x.set = .deliveries →
      ((∀ p ∈ s.dt.records, ¬ due p.1) → s.sendReport n x = ended false) ∧
      (∀ older k d newer, s.dt.records = older ++ (k, d) :: newer → (∀ p ∈ older, ¬ due p.1) → due k →
        s.sendReport n x = sent k (.delivery (s.deliveryReport k d)))) ∧
    (x.cut = false → x.set = .windows →
      ((∀ p ∈ s.windows.records, ¬ due p.1) → s.sendReport n x = ended false) ∧
      (∀ older k w newer, s.windows.records = older ++ (k, w) :: newer → (∀ p ∈ older, ¬ due p.1) → due k →
        s.sendReport n x = sent k (.window (s.windowReport k w)))))

/-- TRANSMIT_COMPLETE: the transmitter is idle again, and after a report frame that counts for the turn the turn is
settled: after a REPORT END it passes to the other slot's stream if that is active, else to the stream that refilled the
ended one's slot, if there is one, else to none; with the count at min run + max run it passes or begins anew; else the
count rises by one (R193, R194; that the count rises at the frame's end is log 18, the refilled slot log 43). -/
def Obligations.TransmitCompleteSettlesTheTurn : Prop :=
  ∀ (s : State) (f : Sending), s.link.sending = some f →
    let other (n : SlotNo) : Option Turn := if (s.link.stream n.other).isSome then some ⟨n.other, 0⟩ else none
    let ends (turn : Option Turn) : Host.Outcome State Fault Refusal :=
      .next (State.settleLink { s with link := { s.link with sending := none, turn := turn } })
    (f.mark = none → exec .transmitComplete s = ends s.link.turn) ∧
    (∀ m, f.mark = some m → (∀ t, s.link.turn = some t → t.slot ≠ m.slot) →
      exec .transmitComplete s = ends s.link.turn) ∧
    (∀ n k, f.mark = some ⟨n, true⟩ → s.link.turn = some ⟨n, k⟩ →
      exec .transmitComplete s = ends
        (if (s.link.stream n.other).isSome then some ⟨n.other, 0⟩
         else if (s.link.stream n).isSome then some ⟨n, 0⟩ else none)) ∧
    (∀ n k, f.mark = some ⟨n, false⟩ → s.link.turn = some ⟨n, k⟩ →
      exec .transmitComplete s = ends
        (if s.link.minRun + s.link.maxRun ≤ k + 1 then some ((other n).getD ⟨n, 0⟩) else some ⟨n, k + 1⟩))

/-- STATUS shows the part as it stands and changes nothing (R199). DELIVERY QUERY, WINDOW QUERY, BRIDGE QUERY, PROFILE
READ and STORE READ show what stands and change nothing (R23, R66, R67, R116, R159, R180; the minutes shown to a
deadline are log 19, the whole seconds of bind life log 32). -/
def Obligations.QueriesShowWhatStands : Prop :=
  (∀ (s : State) (tag : Byte), s.ready →
     let brief (b : BridgeNo) : BridgeBrief :=
       { state := (s.bridge b).state, present := (s.bridge b).present, zeroDue := (s.bridge b).zeroDue
         applyPending := (match (s.channel b).pending with | some p => p.held | none => false) }
     exec (.status tag) s = .next (s.okReply 0x90 tag (.status
       { season := s.shift.season, shift := s.shift.number, dtUsed := s.dt.records.length, dtReserved := s.dt.reserved
         feedLength := s.feed.length, windowsUsed := s.windows.records.length, openWindow := s.windows.counter
         storeState := s.store.state, free := 4064 - (s.store.lastSequence - s.store.exportMark)
         reserved := s.store.reserved, lastSequence := s.store.lastSequence, exportMark := s.store.exportMark
         badSlots := s.store.badSlots.length, bridges := ⟨brief .b1, brief .b2, brief .b3, brief .b4⟩
         clockSet := s.clock.isSet, notices := s.link.notices.length, slot1 := s.link.slot1.isSome
         slot2 := s.link.slot2.isSome }))) ∧
  (∀ (s : State) (tag : Byte), s.ready →
     (∀ n d, 1 ≤ n → n ≤ 999999 → s.delivery? n = some d →
       exec (.deliveryQuery tag n) s = .next (s.okReply 0xAB tag (.delivery
         { number := n, record := d, remainder := if d.state = .queued then d.queueMass - d.crushed else 0
           tareBridge := s.tareBridge n, storedPending := d.pendingNet.isSome }))) ∧
     (∀ n w, 1 ≤ n → n ≤ 999999 → s.window? n = some w →
       exec (.windowQuery tag n) s = .next (s.okReply 0xBB tag (.window
         { number := n, record := w, juiceYield := yieldOf w.juice w.cane, waterPercent := yieldOf w.water w.cane
           noCane := w.cane == 0
           minutesLeft := if w.state = .closed then w.deadline.map fun d => d - (s.clock.minutes + 1) else none
           sampler :=
             if w.state = .opened then
               some { pacing := s.windows.pacing, spacing := s.shift.working.target / s.shift.working.strokes
                      outstanding := s.lines.command.map (·.window) }
             else none }))) ∧
     (∀ b, exec (.bridgeQuery tag (bridgeCode b)) s = .next (s.okReply 0xA2 tag (.bridge b
       { state := (s.bridge b).state, present := (s.bridge b).present, zeroDue := (s.bridge b).zeroDue
         applyPending := (match (s.channel b).pending with | some p => p.held | none => false)
         zeroRequest := (s.bridge b).zeroRequest, lockCause := (s.bridge b).lockCause
         pendingCause := (s.bridge b).pendingCause, entry := (s.bridge b).entry, binding := (s.bridge b).binding
         bindSeconds := (s.bridge b).bindTimer.getD 0 / 1000, backlog := (s.bridge b).backlog
         minutesLeft := (s.bridge b).zeroDeadline - s.clock.minutes, rounded := (s.channel b).rounded
         lastStable := (s.channel b).lastStable, entryLamp := entryDemand (s.bridge b)
         exitLamp := exitDemand (s.bridge b) }))) ∧
     (let shown (p : Profile) : ReplyContent := .profileReport
       { profile := p, lastLetter := s.shift.lastLetter, shift := s.shift.number, season := s.shift.season
         start := s.shift.start, acc := s.shift.acc, owed := s.shift.owed.isSome }
      exec (.profileRead tag 0) s = .next (s.okReply 0xC1 tag (shown s.shift.working)) ∧
      exec (.profileRead tag 1) s = .next (s.okReply 0xC1 tag (shown s.shift.shadowA)) ∧
      exec (.profileRead tag 2) s = .next (s.okReply 0xC1 tag (shown s.shift.shadowB))) ∧
     (∀ k r older newer, s.store.slots = older ++ (k, r) :: newer → 1 ≤ r.sequence →
       r.sequence ≤ s.store.lastSequence → (∀ p ∈ older, p.2.sequence ≠ r.sequence) →
       exec (.storeRead tag r.sequence) s = .next (s.okReply 0xD8 tag
         (.record (decide (r.check ≠ recordCheck r)) r))) ∧
     (∀ n, s.store.lastSequence < n ∧ 1 ≤ n → exec (.storeRead tag n) s = .next (s.refusal 0xD8 tag .notFound)))

/-- ATTENTION reports the fourteen flags with their repeat bits, clears every one in the same step, and turns AL off
(R153, R201). LINK SET takes every run given, 0 standing for not given, and refuses a value out of range; TIME SET
sets the clock and its mark, answers the reading before, and refuses a date or time that is none (R183, R198; that
the running second begins anew is log 1). -/
def Obligations.ThePortsOwnRequestsAreTaken : Prop :=
  (∀ (s : State) (tag : Byte), s.ready →
     exec (.attention tag) s = .next (State.okReply
       { s with
           link := { s.link with flags :=
             let off : FlagBits := ⟨false, false⟩
             ⟨off, off, off, off, off, off, off, off, off, off, off, off, off, off⟩ }
           lines := { s.lines with al := false } } 0x91 tag (.attention s.link.flags))) ∧
  (∀ (s : State) (tag : Byte), s.ready →
     (∀ a b : Nat, a ≤ 16 → b ≤ 64 →
       let least := if a = 0 then s.link.minRun else a
       let most := if b = 0 then s.link.maxRun else b
       exec (.linkSet tag a b) s = .next (State.okReply { s with link := { s.link with minRun := least, maxRun := most } }
         0x92 tag (.linkSettings least most))) ∧
     (∀ a b : Nat, 16 < a ∨ 64 < b → exec (.linkSet tag a b) s = .next (s.refusal 0x92 tag .badField)) ∧
     (∀ t : MillTime, 2000 ≤ t.year → t.year ≤ 2199 → 1 ≤ t.month → t.month ≤ 12 → 1 ≤ t.day →
       t.day ≤ daysIn t.year t.month → t.hour ≤ 23 → t.minute ≤ 59 → t.second ≤ 59 →
       exec (.timeSet tag t) s = .next (State.okReply
         { s with clock := { s.clock with reading := t, isSet := true, ms := 0 } } 0x93 tag (.clockBefore s.clock.reading))) ∧
     (∀ t : MillTime, t.year < 2000 ∨ 2199 < t.year ∨ t.month = 0 ∨ 12 < t.month ∨ t.day = 0 ∨ daysIn t.year t.month < t.day ∨ 23 < t.hour ∨
       59 < t.minute ∨ 59 < t.second → exec (.timeSet tag t) s = .next (s.refusal 0x93 tag .badField)))

/-- REPORT START makes the lower-numbered free slot active with the set, and takes the turn when no other stream is
active; with both slots active it is refused FULL, and with another set code BAD_FIELD (R194, R195). REPORT STOP frees
an active slot, answers its item count, and gives up a turn it holds; a slot that is not active is refused WRONG_STATE,
and another slot BAD_FIELD (R194, R197). Where a turn is taken or given up, the frame being sent counts for no turn any
more (log 18). A stream that waits in the slot of one whose REPORT END is on the line holds no turn to give up (log
43). -/
def Obligations.ReportStreamsStartAndStop : Prop :=
  ∀ (s : State) (tag : Byte), s.ready →
    let unmarked := s.link.sending.map fun f => { f with mark := none }
    (∀ k : ReportSet,
      let x : Stream := { set := k, lastKey := none, count := 0, tag := tag, cut := false }
      (s.link.slot1 = none → s.link.slot2 = none →
        exec (.reportStart tag (reportSetCode k)) s = .next (State.okReply
          { s with link := { s.link with slot1 := some x, turn := some ⟨.one, 0⟩, sending := unmarked } }
          0x98 tag (.reportSlot 1))) ∧
      (s.link.slot1 = none → s.link.slot2.isSome = true →
        exec (.reportStart tag (reportSetCode k)) s = .next (State.okReply
          { s with link := { s.link with slot1 := some x } } 0x98 tag (.reportSlot 1))) ∧
      (s.link.slot1.isSome = true → s.link.slot2 = none →
        exec (.reportStart tag (reportSetCode k)) s = .next (State.okReply
          { s with link := { s.link with slot2 := some x } } 0x98 tag (.reportSlot 2))) ∧
      (s.link.slot1.isSome = true → s.link.slot2.isSome = true →
        exec (.reportStart tag (reportSetCode k)) s = .next (s.refusal 0x98 tag .full))) ∧
    (∀ (n : SlotNo) (x : Stream), s.link.stream n = some x →
      let endOnLine : Prop := ∃ f, s.link.sending = some f ∧ f.mark = some ⟨n, true⟩
      ((∀ t, s.link.turn = some t → t.slot ≠ n) ∨ endOnLine →
        exec (.reportStop tag (slotCode n)) s = .next (State.okReply
          { s with link := s.link.setStream n none } 0x99 tag (.itemCount x.count))) ∧
      (∀ k, s.link.turn = some ⟨n, k⟩ → ¬ endOnLine →
        exec (.reportStop tag (slotCode n)) s = .next (State.okReply
          { s with link := { s.link.setStream n none with
              sending := unmarked
              turn := if (s.link.stream n.other).isSome then some ⟨n.other, 0⟩ else none } }
          0x99 tag (.itemCount x.count)))) ∧
    (∀ n : SlotNo, s.link.stream n = none →
      exec (.reportStop tag (slotCode n)) s = .next (s.refusal 0x99 tag .wrongState)) ∧
    (∀ set, set = 0 ∨ 3 < set → exec (.reportStart tag set) s = .next (s.refusal 0x98 tag .badField)) ∧
    (∀ slot, slot = 0 ∨ 2 < slot → exec (.reportStop tag slot) s = .next (s.refusal 0x99 tag .badField))

/-! ## Bridges -/

/-- BIND for a gross pass, with every test of R96 passed: the binding carries the registered class or else the one
given, the store holds 2 slots more, the Delivery Table one reserved slot more and the grower one open delivery
more, and the bridge is BOUND with its bind-life timer running (R28, R96, R97). BIND for a tare pass, with every
test of R96 passed: one store slot more is held and the bridge is BOUND, naming the delivery (R96, R97). Every refusal,
in the order of R96's table: BAD_FIELD for a field out of range; then by the bridge ALREADY, WRONG_STATE or LOCKED; for a
gross pass NOT_FOUND for the grower, FULL, STORE_FAILED, STORE_LOW below 66; for a tare pass NOT_FOUND for the delivery,
WRONG_STATE, IN_USE, MISMATCH, STORE_FAILED, STORE_LOW below 1 (R96). -/
def Obligations.BindsTakeTheirReservations : Prop :=
  (∀ (s : State) (tag : Byte) (b : BridgeNo) (v cls insp wish g d : Nat) (y : Grower), s.ready →
     1 ≤ v → 1 ≤ g → g ≤ 9999 → insp ≤ 9 → wish ≤ 1 → (s.vehicle? v = none → cls ≤ 3) →
     (s.bridge b).state = .idle ∨ (s.bridge b).state = .arrived → (s.bridge b).zeroDue = false →
     s.grower? g = some y → s.dt.records.length + s.dt.reserved < 96 → s.dt.counter + s.dt.reserved < 999999 →
     s.store.state ≠ .failed → s.store.reserved + 66 ≤ s.free →
     let x : Binding :=
       { vehicle := v, pass := .gross (((s.vehicle? v).map (·.cls)).getD cls) g insp (wish == 1)
         bindTime := s.clock.reading, life := s.shift.working.bindLife }
     let r := s.reserve 2
     exec (.bind tag (bridgeCode b) 1 v cls insp wish g d) s = .next (State.okReply
       (State.modBridge
         { r with dt := { r.dt with reserved := r.dt.reserved + 1 }
                  growers := Table.modify r.growers g fun y => { y with openCount := y.openCount + 1 } } b
         fun z => { z with state := .bound, binding := some x, bindTimer := some (x.life * 60000) })
       0xA0 tag (.binding b x))) ∧
  (∀ (s : State) (tag : Byte) (b : BridgeNo) (v cls insp wish g n : Nat) (d : Delivery), s.ready →
     1 ≤ v → 1 ≤ n → n ≤ 999999 → (s.bridge b).state = .idle ∨ (s.bridge b).state = .arrived →
     (s.bridge b).zeroDue = false → s.delivery? n = some d → d.netting = none → d.pendingNet = none →
     d.state ≠ .settling → d.state ≠ .voiding → (∀ c x, (s.bridge c).binding = some x → x.pass ≠ .tare n) →
     v = d.vehicle → s.store.state ≠ .failed → s.store.reserved + 1 ≤ s.free →
     let x : Binding := { vehicle := v, pass := .tare n, bindTime := s.clock.reading, life := s.shift.working.bindLife }
     exec (.bind tag (bridgeCode b) 2 v cls insp wish g n) s = .next (State.okReply
       ((s.reserve 1).modBridge b
         fun z => { z with state := .bound, binding := some x, bindTimer := some (x.life * 60000) })
       0xA0 tag (.binding b x))) ∧
  (∀ (s : State) (tag : Byte) (bridge pass v cls insp wish g n : Nat), s.ready →
     let refused (code : ResultCode) : Prop :=
       exec (.bind tag bridge pass v cls insp wish g n) s = .next (s.refusal 0xA0 tag code)
     let grossBad : Prop := g = 0 ∨ 9999 < g ∨ 9 < insp ∨ 1 < wish ∨ (s.vehicle? v = none ∧ 3 < cls)
     let tareBad : Prop := n = 0 ∨ 999999 < n
     (bridge = 0 ∨ 4 < bridge ∨ pass = 0 ∨ 2 < pass ∨ v = 0 → refused .badField) ∧
     (pass = 1 → grossBad → refused .badField) ∧
     (pass = 2 → tareBad → refused .badField) ∧
     ∀ b : BridgeNo, bridge = bridgeCode b → 1 ≤ v → (pass = 1 ∧ ¬ grossBad) ∨ (pass = 2 ∧ ¬ tareBad) →
       ((s.bridge b).state = .bound → refused .already) ∧
       ((s.bridge b).state = .capture ∨ (s.bridge b).state = .clearing ∨ (s.bridge b).state = .calibrating →
         refused .wrongState) ∧
       ((s.bridge b).state = .locked → refused .locked) ∧
       ((s.bridge b).state = .idle ∨ (s.bridge b).state = .arrived →
         ((s.bridge b).zeroDue = true → refused .locked) ∧
         ((s.bridge b).zeroDue = false → pass = 1 →
           (s.grower? g = none → refused .notFound) ∧
           (s.grower? g ≠ none →
             (96 ≤ s.dt.records.length + s.dt.reserved ∨ 999999 ≤ s.dt.counter + s.dt.reserved → refused .full) ∧
             (s.dt.records.length + s.dt.reserved < 96 → s.dt.counter + s.dt.reserved < 999999 →
               (s.store.state = .failed → refused .storeFailed) ∧
               (s.store.state ≠ .failed → s.free < s.store.reserved + 66 → refused .storeLow)))) ∧
         ((s.bridge b).zeroDue = false → pass = 2 →
           (s.delivery? n = none → refused .notFound) ∧
           (∀ d, s.delivery? n = some d →
             (d.netting.isSome = true ∨ d.pendingNet.isSome = true ∨ d.state = .settling ∨ d.state = .voiding →
               refused .wrongState) ∧
             (d.netting = none → d.pendingNet = none → d.state ≠ .settling → d.state ≠ .voiding →
               ((∃ c x, (s.bridge c).binding = some x ∧ x.pass = .tare n) → refused .inUse) ∧
               ((∀ c x, (s.bridge c).binding = some x → x.pass ≠ .tare n) →
                 (v ≠ d.vehicle → refused .mismatch) ∧
                 (v = d.vehicle → s.store.state = .failed → refused .storeFailed) ∧
                 (v = d.vehicle → s.store.state ≠ .failed → s.free < s.store.reserved + 1 → refused .storeLow)))))))

/-- UNBIND in BOUND: the binding is discarded and gives back everything it took, the bridge goes to IDLE or, while
PRESENT is set, to ARRIVED, and the reply carries the binding; in any other state it is refused WRONG_STATE, and a
bridge number outside 1 to 4 BAD_FIELD (R99, R100). -/
def Obligations.UnbindGivesBackWhatTheBindingTook : Prop :=
  ∀ (s : State) (tag : Byte), s.ready →
    (∀ n, n = 0 ∨ 4 < n → exec (.unbind tag n) s = .next (s.refusal 0xA1 tag .badField)) ∧
    ∀ b : BridgeNo,
    ((s.bridge b).state ≠ .bound → exec (.unbind tag (bridgeCode b)) s = .next (s.refusal 0xA1 tag .wrongState)) ∧
    ((s.bridge b).state = .bound → ∀ x, (s.bridge b).binding = some x →
      let free := s.modBridge b fun y => { y with binding := none, bindTimer := none }
      (∀ cls g insp wish, x.pass = .gross cls g insp wish →
        let r := free.giveBack 2
        exec (.unbind tag (bridgeCode b)) s = .next (State.okReply
          (State.goIdle
            { r with dt := { r.dt with reserved := r.dt.reserved - 1 }
                     growers := Table.modify r.growers g fun y => { y with openCount := y.openCount - 1 } } b)
          0xA1 tag (.discarded x))) ∧
      (∀ n, x.pass = .tare n →
        exec (.unbind tag (bridgeCode b)) s = .next (State.okReply ((free.giveBack 1).goIdle b) 0xA1 tag (.discarded x))))

/-- CLEAR_HOLD_EXPIRY with the clear hold running: PRESENT is cleared and the stability period in progress ends; an
ARRIVED or CLEARING bridge goes to IDLE, any other keeps its state (R93, R94, R123). Wherever a rule sends a bridge
to IDLE it goes to ARRIVED while PRESENT is set, and a held configuration then waits on; else it is IDLE, and a held
configuration is applied there (R94, R113). BINDING_EXPIRY on a BOUND bridge: the binding is discarded and gives
back what it took, BIND EXPIRED is made, and the bridge goes to IDLE or ARRIVED (R98, R99). -/
def Obligations.BridgesClearAndReturnToIdle : Prop :=
  (∀ (s : State) (b : BridgeNo), (s.bridge b).clearHold.isSome = true →
     let absent := (s.modBridge b fun x => { x with present := false, clearHold := none }).modChannel b
       fun c => if c.period.isSome then { c with period := none, lastStable := false } else c
     ((s.bridge b).state = .arrived ∨ (s.bridge b).state = .clearing →
       exec (.clearHoldExpiry b) s = .next (absent.goIdle b).settleLink) ∧
     ((s.bridge b).state ≠ .arrived → (s.bridge b).state ≠ .clearing →
       exec (.clearHoldExpiry b) s = .next absent.settleLink)) ∧
  (∀ (s : State) (b : BridgeNo),
     let sent (next : BridgeState) := s.modBridge b fun x => { x with
       state := next, lockCause := none, pendingCause := none, entry := none }
     ((s.bridge b).present = true → s.goIdle b = sent .arrived) ∧
     ((s.bridge b).present = false → (∀ p, (s.channel b).pending = some p → p.held = false) →
       s.goIdle b = sent .idle) ∧
     ((s.bridge b).present = false → ∀ p, (s.channel b).pending = some p → p.held = true →
       s.goIdle b = (sent .idle).applyConfig b true)) ∧
  (∀ (s : State) (b : BridgeNo) (x : Binding), (s.bridge b).state = .bound → (s.bridge b).bindTimer.isSome = true →
     (s.bridge b).binding = some x →
     let free := s.modBridge b fun y => { y with binding := none, bindTimer := none }
     (∀ cls g insp wish, x.pass = .gross cls g insp wish →
       let r := free.giveBack 2
       exec (.bindingExpiry b) s = .next
         ((State.notify
           { r with dt := { r.dt with reserved := r.dt.reserved - 1 }
                    growers := Table.modify r.growers g fun y => { y with openCount := y.openCount - 1 } }
           (.bindExpired b x)).goIdle b).settleLink) ∧
     (∀ n, x.pass = .tare n →
       exec (.bindingExpiry b) s = .next (((free.giveBack 1).notify (.bindExpired b x)).goIdle b).settleLink))

/-- CLEAR FAULT on a LOCKED bridge with no standing condition and no range flag: the cause goes, ZERO_DUE is set, both
persistence timers are stopped, and the bridge goes to IDLE or ARRIVED; where a standing condition holds it is
refused LOCKED, and in another state WRONG_STATE (R111). ZERO NOW sets the zero request in IDLE and is refused
WRONG_STATE elsewhere, and both refuse a bridge number outside 1 to 4 BAD_FIELD (R107, R111). ZERO_DEADLINE_EXPIRY, the
minute counter at or above the deadline: the backlog rises by one up to 15, ZERO_DUE is set when it is then at or above
the urgent limit, and the deadline is re-armed by the zero interval (R104, R105). -/
def Obligations.FaultsAreClearedAndZerosFallDue : Prop :=
  (∀ (s : State) (tag : Byte) (b : BridgeNo), s.ready →
     (∀ n, n = 0 ∨ 4 < n → exec (.clearFault tag n) s = .next (s.refusal 0xA3 tag .badField) ∧
       exec (.zeroNow tag n) s = .next (s.refusal 0xA4 tag .badField)) ∧
     ((s.bridge b).state = .locked → (s.channel b).active ≠ ⟨0, 0, 0, 0, 0, 0⟩ → (s.channel b).cal.valid = true →
       (s.channel b).wireOff = false → (s.channel b).overrange = false → (s.channel b).underrange = false →
       exec (.clearFault tag (bridgeCode b)) s = .next (State.okReply
         (((s.modBridge b fun x => { x with lockCause := none, zeroDue := true }).modBridge b
           fun x => { x with overTimer := .stopped, underTimer := .stopped }).goIdle b) 0xA3 tag .none)) ∧
     ((s.bridge b).state = .locked → (s.channel b).active = ⟨0, 0, 0, 0, 0, 0⟩ ∨ (s.channel b).cal.valid = false ∨
       (s.channel b).wireOff = true ∨ (s.channel b).overrange = true ∨ (s.channel b).underrange = true →
       exec (.clearFault tag (bridgeCode b)) s = .next (s.refusal 0xA3 tag .locked)) ∧
     ((s.bridge b).state ≠ .locked →
       exec (.clearFault tag (bridgeCode b)) s = .next (s.refusal 0xA3 tag .wrongState)) ∧
     ((s.bridge b).state = .idle →
       exec (.zeroNow tag (bridgeCode b)) s = .next (State.okReply
         (s.modBridge b fun x => { x with zeroRequest := true }) 0xA4 tag .none)) ∧
     ((s.bridge b).state ≠ .idle →
       exec (.zeroNow tag (bridgeCode b)) s = .next (s.refusal 0xA4 tag .wrongState))) ∧
  (∀ (s : State) (b : BridgeNo), (s.bridge b).zeroDeadline ≤ s.clock.minutes →
     fits32 (s.clock.minutes + s.shift.working.zeroInterval) →
     let rearmed (t : State) : State :=
       t.modBridge b fun x => { x with zeroDeadline := s.clock.minutes + s.shift.working.zeroInterval }
     ((s.bridge b).backlog < 15 →
       exec (.zeroDeadlineExpiry b) s = .next (rearmed (s.modBridge b fun x => { x with
         backlog := x.backlog + 1
         zeroDue := x.zeroDue || decide (s.shift.working.urgentLimit ≤ x.backlog + 1) })).settleLink) ∧
     (15 ≤ (s.bridge b).backlog → exec (.zeroDeadlineExpiry b) s = .next (rearmed s).settleLink))

/-- RANGE_PERSISTENCE_EXPIRY with the timer running: the condition arises. An IDLE, ARRIVED or CLEARING bridge enters
LOCKED with it, a BOUND one after discarding its binding, a bridge in CAPTURE holds it as pending cause unless it
holds one already, and a LOCKED or CALIBRATING bridge keeps what it has (R108, R109). A range flag that clears on a bridge
LOCKED with its cause: its timer stops, and if the condition had arisen the cause becomes the first other standing
condition in the order of R110, where there is one; if it had not, the cause is kept (R108, R110). -/
def Obligations.LastingRangeFlagsLockTheBridge : Prop :=
  (∀ (s : State) (b : BridgeNo) (k : RangeKind) (left : Nat), (s.bridge b).timer k = .running left →
    let cause : LockCause := match k with | .over => .overrange | .under => .underrange
    let out := s.modBridge b fun x => x.setTimer k .ranOut
    let locked (t : State) (gone : Option Binding) : State :=
      ((t.modBridge b fun x => { x with
        state := .locked, lockCause := some cause, pendingCause := none, entry := none, zeroRequest := false
        bindTimer := none }).notify (.bridgeLocked b cause gone)).raise .bridgeLocked
    ((s.bridge b).state = .idle ∨ (s.bridge b).state = .arrived ∨ (s.bridge b).state = .clearing →
      exec (.rangePersistenceExpiry b k) s = .next (locked out none).settleLink) ∧
    ((s.bridge b).state = .bound →
      exec (.rangePersistenceExpiry b k) s = .next (locked (out.discardBinding b) (s.bridge b).binding).settleLink) ∧
    ((s.bridge b).state = .capture →
      exec (.rangePersistenceExpiry b k) s = .next (State.settleLink
        (out.modBridge b fun x => { x with pendingCause := some (x.pendingCause.getD cause) }))) ∧
    ((s.bridge b).state = .locked ∨ (s.bridge b).state = .calibrating →
      exec (.rangePersistenceExpiry b k) s = .next out.settleLink)) ∧
  (∀ (s : State) (b : BridgeNo) (k : RangeKind),
    let cause (k : RangeKind) : LockCause := match k with | .over => .overrange | .under => .underrange
    let other : RangeKind := match k with | .over => .under | .under => .over
    let cleared := (s.modChannel b fun c => c.setRangeFlag k false).modBridge b fun x => x.setTimer k .stopped
    let standing : Option LockCause :=
      if (s.channel b).active = ⟨0, 0, 0, 0, 0, 0⟩ then some .unconfigured
      else if (s.channel b).cal.valid = false then some .calInvalid
      else if (s.channel b).wireOff = true then some .wireOff
      else if (s.bridge b).timer other = .ranOut then some (cause other)
      else none
    (s.channel b).rangeFlag k = true → (s.bridge b).state = .locked → (s.bridge b).lockCause = some (cause k) →
      ((s.bridge b).timer k ≠ .ranOut ∨ standing = none → s.setRange b k false = cleared) ∧
      (∀ next, (s.bridge b).timer k = .ranOut → standing = some next →
        s.setRange b k false = cleared.modBridge b fun x => { x with lockCause := some next }))

/-! ## Deliveries and vehicles -/

/-- TIP of a netted OPEN_GROSS delivery: it joins the tail of the Feed Queue with its net as queue mass; with 48 entries
standing there the TIP is refused FULL (R16, R17, R32). TIP of an un-netted OPEN_GROSS delivery: its queue mass is
estimated from the stored tare, or else from the default tare of its class, less the trash; with an estimate of 0 it
becomes CRUSHED at once with one part of 0 kg under the OPEN window, whose reference count rises by one (R16, R17,
R18). -/
def Obligations.TipsFixTheQueueMass : Prop :=
  (∀ (s : State) (tag : Byte) (n : Nat) (d : Delivery) (x : Netting), s.ready → 1 ≤ n → n ≤ 999999 →
     s.delivery? n = some d → d.state = .openGross → d.netting = some x → 0 < x.net →
     (s.feed.length < 48 →
       exec (.tip tag n) s = .next (State.okReply
         { s with
             dt := { s.dt with records := s.dt.records.modify n fun d => { d with
               queueMass := x.net, estimated := false, state := .queued } }
             feed := s.feed ++ [n] } 0xA8 tag (.tipped x.net false))) ∧
     (48 ≤ s.feed.length → exec (.tip tag n) s = .next (s.refusal 0xA8 tag .full))) ∧
  (∀ (s : State) (tag : Byte) (n : Nat) (d : Delivery), s.ready → 1 ≤ n → n ≤ 999999 →
     s.delivery? n = some d → d.state = .openGross → d.netting = none →
     let tare := ((s.storedTare d.vehicle).map (·.kg)).getD (s.shift.working.tares.getD d.cls 0)
     let cane := d.gross.kg - tare
     let e := cane - cane * s.shift.working.trash.getD d.inspection 0 / 1000
     (0 < e → s.feed.length < 48 →
       exec (.tip tag n) s = .next (State.okReply
         { s with
             dt := { s.dt with records := s.dt.records.modify n fun d => { d with
               queueMass := e, estimated := true, state := .queued } }
             feed := s.feed ++ [n] } 0xA8 tag (.tipped e true))) ∧
     (0 < e → 48 ≤ s.feed.length → exec (.tip tag n) s = .next (s.refusal 0xA8 tag .full)) ∧
     (e = 0 →
       exec (.tip tag n) s = .next (State.okReply
         { s with
             dt := { s.dt with records := s.dt.records.modify n fun d => { d with
               queueMass := 0, estimated := true, state := .crushed, parts := d.parts ++ [⟨s.windows.counter, 0⟩]
               nominalPart := true } }
             windows := { s.windows with records := s.windows.records.modify s.windows.counter fun w => { w with
               refs := w.refs + 1 } } } 0xA8 tag (.tipped 0 true))))

/-- VOID of an OPEN_GROSS delivery that no tare binding names and that has no stored netting pending: it becomes VOIDING
and its VOID record is asked for (R19). NET FROM STORED, with its tests passed: one slot more is held, the figures
of the stored tare are held pending, and their TARE record is asked for (R10, R13). WRITE_COMPLETE of a VOID record, with
nothing else to write: the delivery's record is freed, the grower's open count falls by one, the slot is consumed and
VOIDED is made with the record's sequence number (R20, R176). -/
def Obligations.VoidsAndStoredNettingsAskForTheirRecords : Prop :=
  (∀ (s : State) (f : InFlight) (n : Nat) (x : VoidBody), s.loneWrite f → f.request = ⟨.delivery n, .void x⟩ →
    exec .writeComplete s = .next (State.settleLink (State.notify
      { s with
          dt := { s.dt with records := s.dt.records.drop x.delivery }
          growers := Table.modify s.growers x.grower fun y => { y with openCount := y.openCount - 1 }
          store := s.store.completed f } (.voided x.delivery f.record.sequence)))) ∧
  ∀ (s : State) (tag : Byte) (n : Nat) (d : Delivery), s.ready → 1 ≤ n → n ≤ 999999 → s.delivery? n = some d →
    d.pendingNet = none → (∀ b x, (s.bridge b).binding = some x → x.pass ≠ .tare n) →
    (d.state = .openGross →
      exec (.voidDelivery tag n) s = .next (State.okReply
        ((s.modDelivery n fun d => { d with state := .voiding }).requestWrite (.delivery n)
          (.void { delivery := n, grower := d.grower, vehicle := d.vehicle, grossSequence := d.gross.sequence
                   gross := d.gross.kg })) 0xA9 tag .none)) ∧
    (∀ (v : Vehicle) (t : StoredTare), d.state ≠ .settling → d.state ≠ .voiding → d.netting = none →
      s.vehicle? d.vehicle = some v → v.stored = some t → t.kg < d.gross.kg →
      s.store.state ≠ .failed → s.store.reserved + 1 ≤ s.free →
      let cane := d.gross.kg - t.kg
      let trash := cane * s.shift.working.trash.getD d.inspection 0 / 1000
      exec (.netFromStored tag n) s = .next (State.okReply
        (((s.reserve 1).modDelivery n fun d => { d with
            pendingNet := some { tare := t.kg, trash := trash, net := cane - trash, time := s.clock.reading } }).requestWrite
          (.delivery n)
          (.tare { delivery := n, vehicle := d.vehicle, bridge := none, gross := d.gross.kg, tare := t.kg
                   status := .accepted trash (cane - trash), time := s.clock.reading })) 0xAA tag .none))

/-- VEHICLE SET registers a vehicle or changes its class, keeping its stored tare, and is refused FULL at 128 records;
VEHICLE DROP removes a record that no delivery and no binding names, and is else refused IN_USE (R26, R27). GROWER
SET changes a grower's fibre, keeping every other field, or makes a new record with nothing posted; it is refused
FULL at 240 records and BAD_FIELD outside the ranges (R85). -/
def Obligations.VehiclesAndGrowersAreSet : Prop :=
  (∀ (s : State) (tag : Byte) (v : Nat), s.ready → 1 ≤ v →
     (∀ cls y, cls ≤ 3 → s.vehicle? v = some y →
       exec (.vehicleSet tag v cls) s = .next (State.okReply
         { s with vehicles := Table.put s.vehicles v { y with cls := cls } } 0xAC tag (.vehicle v { y with cls := cls }))) ∧
     (∀ cls, cls ≤ 3 → s.vehicle? v = none → s.vehicles.length < 128 →
       let y : Vehicle := { cls := cls, stored := none, uses := 0 }
       exec (.vehicleSet tag v cls) s = .next (State.okReply
         { s with vehicles := Table.put s.vehicles v y } 0xAC tag (.vehicle v y))) ∧
     (∀ cls, cls ≤ 3 → s.vehicle? v = none → 128 ≤ s.vehicles.length →
       exec (.vehicleSet tag v cls) s = .next (s.refusal 0xAC tag .full)) ∧
     (∀ cls, 3 < cls → exec (.vehicleSet tag v cls) s = .next (s.refusal 0xAC tag .badField)) ∧
     (∀ y, s.vehicle? v = some y →
       ((∀ p ∈ s.dt.records, p.2.vehicle ≠ v) → (∀ b x, (s.bridge b).binding = some x → x.vehicle ≠ v) →
         exec (.vehicleDrop tag v) s = .next (State.okReply { s with vehicles := Table.drop s.vehicles v } 0xAD tag .none)) ∧
       (((∃ p ∈ s.dt.records, p.2.vehicle = v) ∨ ∃ b x, (s.bridge b).binding = some x ∧ x.vehicle = v) →
         exec (.vehicleDrop tag v) s = .next (s.refusal 0xAD tag .inUse))) ∧
     (s.vehicle? v = none → exec (.vehicleDrop tag v) s = .next (s.refusal 0xAD tag .notFound))) ∧
  (∀ (s : State) (tag : Byte) (g f : Nat), s.ready →
     (1 ≤ g → g ≤ 9999 → 80 ≤ f → f ≤ 250 →
       (∀ y, s.grower? g = some y →
         exec (.growerSet tag g f) s = .next (State.okReply
           { s with growers := Table.put s.growers g { y with fibre := f } } 0xB0 tag (.grower g { y with fibre := f }))) ∧
       (s.grower? g = none → s.growers.length < 240 →
         let y : Grower :=
           { fibre := f, settled := 0, netTotal := 0, payableTotal := 0, juiceTotal := 0, openCount := 0
             lastSettled := none, saturated := false }
         exec (.growerSet tag g f) s = .next (State.okReply
           { s with growers := Table.put s.growers g y } 0xB0 tag (.grower g y))) ∧
       (s.grower? g = none → 240 ≤ s.growers.length →
         exec (.growerSet tag g f) s = .next (s.refusal 0xB0 tag .full))) ∧
     (g = 0 ∨ 9999 < g ∨ f < 80 ∨ 250 < f → exec (.growerSet tag g f) s = .next (s.refusal 0xB0 tag .badField)))

/-! ## Growers -/

/-- GROWER DROP and GROWER QUERY, every test in order: a code of 0 or above 9,999 BAD_FIELD; no record NOT_FOUND; a drop
with an open count or a settled count above 0 IN_USE. Else the drop removes the record, which is then no longer
found, and the query answers the whole record and changes nothing (R86, R87). -/
def Obligations.GrowersAreDroppedAndQueried : Prop :=
  ∀ (s : State) (tag : Byte) (g : Nat), s.ready →
    (g = 0 ∨ 9999 < g →
      exec (.growerDrop tag g) s = .next (s.refusal 0xB1 tag .badField) ∧
      exec (.growerQuery tag g) s = .next (s.refusal 0xB2 tag .badField)) ∧
    (1 ≤ g → g ≤ 9999 → s.grower? g = none →
      exec (.growerDrop tag g) s = .next (s.refusal 0xB1 tag .notFound) ∧
      exec (.growerQuery tag g) s = .next (s.refusal 0xB2 tag .notFound)) ∧
    (1 ≤ g → g ≤ 9999 → ∀ y, s.grower? g = some y →
      (0 < y.openCount ∨ 0 < y.settled → exec (.growerDrop tag g) s = .next (s.refusal 0xB1 tag .inUse)) ∧
      (y.openCount = 0 → y.settled = 0 →
        exec (.growerDrop tag g) s = .next (State.okReply
          { s with growers := Table.drop s.growers g } 0xB1 tag .none) ∧
        ∀ m, Table.find (Table.drop s.growers g) m = if m = g then none else s.grower? m) ∧
      exec (.growerQuery tag g) s = .next (s.okReply 0xB2 tag (.grower g y)))

/-! ## Windows, the feed and the sampler -/

/-- SAMPLE CLOSE of the OPEN window, when a successor can open: with no stroke seen and no command outstanding for it
the window goes VOID with NO_STROKES and fallback quality and its record is asked for; else it goes CLOSED with THIN
and its deadline judged. The next window opens with its reservation, the shift counts one window closed, WINDOW
CLOSED is made, and the reply names the successor (R48, R49, R53, R62, R63). -/
def Obligations.SampleCloseOpensTheSuccessor : Prop :=
  ∀ (s : State) (tag : Byte) (n : Nat) (w : Window), s.canonical → s.ready → n = s.windows.counter → 1 ≤ n → n < 999999 →
    s.window? n = some w → s.windows.records.length < 32 → s.store.state ≠ .failed → s.store.reserved + 1 ≤ s.free →
    let closed : Window := { w with
      state := .closed, closedAt := some s.clock.reading
      thin := decide (w.seen < s.shift.working.minStrokes)
      deadline := some (s.minutesFromNow s.shift.working.resultTimeout) }
    let voided : Window := { w with
      state := .voided, closedAt := some s.clock.reading, noStrokes := true, quality := some s.fallback
      fallback := true }
    let opened (t : State) : State :=
      State.reserve
        { t with windows := { t.windows with
            records := t.windows.records.put (n + 1) (Window.fresh s.shift.number s.clock.reading), counter := n + 1
            pacing := 0 } } 1
    let counted (t : State) : State :=
      { t with shift := { t.shift with acc := { t.shift.acc with windows := t.shift.acc.windows.plus 1 } } }
    let told (t : State) (v : Window) : State := t.notify (.windowClosed
      { number := n, state := v.state, cane := v.cane, juice := v.juice, water := v.water, commanded := v.commanded
        seen := v.seen, missed := v.missed, deadline := v.deadline, successor := n + 1 })
    (0 < w.seen ∨ (∃ c, s.lines.command = some c ∧ c.window = n) →
      exec (.sampleClose tag n) s = .next (State.okReply
        (told (counted (opened (s.modWindow n fun _ => closed))) closed) 0xB8 tag (.successor (n + 1)))) ∧
    (w.seen = 0 → (∀ c, s.lines.command = some c → c.window ≠ n) →
      exec (.sampleClose tag n) s = .next (State.okReply
        (told (counted (opened ((s.modWindow n fun _ => voided).requestWrite (.window n) (.window n voided)))) voided)
        0xB8 tag (.successor (n + 1))))

/-- SAMPLE RESULT, every test in order. On a CLOSED window it gives the Brix and pol, makes the window RESULTED, adds to
the three quality sums and asks for the WINDOW record (R59, R62, R63). SAMPLE VOID, every test in order. A CLOSED
window goes VOID with fallback quality, the shift's weighted quality or else the profile's defaults, FALLBACK is
set, its record is asked for, and the reply carries the quality (R61, R62, R63). -/
def Obligations.SampleResultsAndVoidsMakeWindowsFinal : Prop :=
  (∀ (s : State) (tag : Byte) (n brix pol : Nat), s.canonical → s.ready →
     let refused (code : ResultCode) : Prop := exec (.sampleResult tag n brix pol) s = .next (s.refusal 0xB9 tag code)
     (n = 0 ∨ 999999 < n ∨ brix < 100 ∨ 3000 < brix ∨ brix < pol → refused .badField) ∧
     (1 ≤ n → n ≤ 999999 → 100 ≤ brix → brix ≤ 3000 → pol ≤ brix →
       (s.windows.counter < n → refused .notFound) ∧
       (n ≤ s.windows.counter →
         (s.window? n = none → refused .tooLate) ∧
         ∀ w, s.window? n = some w →
           (w.state = .opened → refused .wrongState) ∧ (w.state = .resulted → refused .already) ∧
           (w.state = .voided → refused .tooLate) ∧
           (w.state = .closed →
             let v : Window := { w with state := .resulted, quality := some ⟨brix, pol⟩ }
             exec (.sampleResult tag n brix pol) s = .next (State.okReply
               (State.requestWrite
                 { s with windows := { s.windows with
                     records := s.windows.records.modify n fun _ => v
                     sumCanePol := s.windows.sumCanePol + w.cane * pol
                     sumCaneBrix := s.windows.sumCaneBrix + w.cane * brix
                     sumCane := s.windows.sumCane + w.cane } }
                 (.window n) (.window n v)) 0xB9 tag .none))))) ∧
  (∀ (s : State) (tag : Byte) (n : Nat), s.canonical → s.ready →
     let refused (code : ResultCode) : Prop := exec (.sampleVoid tag n) s = .next (s.refusal 0xBA tag code)
     (n = 0 ∨ 999999 < n → refused .badField) ∧
     (1 ≤ n → n ≤ 999999 →
       (s.windows.counter < n → refused .notFound) ∧
       (n ≤ s.windows.counter →
         (s.window? n = none → refused .tooLate) ∧
         ∀ w, s.window? n = some w →
           (w.state = .opened ∨ w.state = .resulted → refused .wrongState) ∧ (w.state = .voided → refused .tooLate) ∧
           (w.state = .closed →
             let sum := s.windows.sumCane
             let q : Quality :=
               if 0 < sum then
                 ⟨(2 * s.windows.sumCaneBrix + sum) / (2 * sum), (2 * s.windows.sumCanePol + sum) / (2 * sum)⟩
               else ⟨s.shift.working.defaultBrix, s.shift.working.defaultPol⟩
             let v : Window := { w with state := .voided, quality := some q, fallback := true }
             exec (.sampleVoid tag n) s = .next (State.okReply
               ((s.modWindow n fun _ => v).requestWrite (.window n) (.window n v)) 0xBA tag (.quality q))))))

/-- RESULT_DEADLINE_EXPIRY on a CLOSED window whose deadline is at or below the minute counter: SAMPLE_EXPIRED is
raised, the window goes VOID with EXPIRED and fallback quality, and its record is asked for; any other window is
left alone (R60, R62, R63). RUNNING_MINUTES_LIMIT with the OPEN window's running minutes at or above the maximum:
the window closes when a successor can open; else it stays OPEN, and the first time EXTENDED is set on it and
WINDOW_EXTENDED raised (R51, R52). -/
def Obligations.WindowLimitsCloseExtendOrVoid : Prop :=
  (∀ (s : State) (n : Nat) (w : Window), s.canonical → s.window? n = some w →
     (w.state = .closed → ∀ d, w.deadline = some d → d ≤ s.clock.minutes →
       let v : Window := { w with state := .voided, expired := true, quality := some s.fallback, fallback := true }
       exec (.resultDeadlineExpiry n) s = .next (State.settleLink
         (((s.raise .sampleExpired).modWindow n fun _ => v).requestWrite (.window n) (.window n v)))) ∧
     (w.state ≠ .closed ∨ (∃ d, w.deadline = some d ∧ s.clock.minutes < d) →
       exec (.resultDeadlineExpiry n) s = .next s.settleLink)) ∧
  (∀ (s : State) (w : Window), s.window? s.windows.counter = some w → s.shift.working.maxRunning ≤ w.running →
     (s.canOpen = true →
       exec .runningMinutesLimit s = .next (s.closeWindow s.shift.number).settleLink) ∧
     (s.canOpen = false → w.extended = false →
       exec .runningMinutesLimit s = .next (State.settleLink
         ((s.modWindow s.windows.counter fun w => { w with extended := true }).raise .windowExtended))) ∧
     (s.canOpen = false → w.extended = true → exec .runningMinutesLimit s = .next s.settleLink))

/-- A cane pulse, INPUT_HOLD_EXPIRY at an active edge of CP, that the head delivery takes whole: it is debited and its
parts list credited under the OPEN window by the three cases of R36, and the window's, the shift's and the pacing cane
rise by the pulse; no stroke is due (R34, R35, R36, R55). A pulse at or above the head's remainder: the head takes its
remainder, leaves the Feed Queue and is CRUSHED, unsettled as its last part names the OPEN window; with nothing behind
it the leftover is the window's and the shift's orphan mass and raises ORPHAN_CANE (R21, R35, R37). After either booking,
cane at or above the target triggers a close (R50). -/
def Obligations.CanePulsesDebitTheHeadDelivery : Prop :=
  (∀ (s : State) (n : Nat) (rest : List Nat) (d : Delivery) (w : Window), s.canonical → s.edgeDue .cp → s.feed = n :: rest →
    s.delivery? n = some d → d.crushed + s.lines.cpMass < d.queueMass → 0 < s.lines.cpMass →
    s.window? s.windows.counter = some w → w.extended = false →
    fits32 (w.cane + s.lines.cpMass) → fits32 (w.attributed + s.lines.cpMass) → fits32 (w.folded + s.lines.cpMass) →
    fits32 (s.windows.pacing + s.lines.cpMass) →
    s.windows.pacing + s.lines.cpMass < s.shift.working.target / s.shift.working.strokes →
    let p := s.lines.cpMass
    let t := s.levelTaken .cp
    let tested (u : State) : State :=
      if s.shift.working.target ≤ w.cane + p then u.triggerClose s.shift.number else u
    let booked (parts : List Part) (fold : Bool) (v : Window) : Host.Outcome State Fault Refusal :=
      .next (State.settleLink (tested { t with
        dt := { s.dt with records := s.dt.records.modify n fun d => { d with
          crushed := d.crushed + p, parts := parts, folded := d.folded || fold } }
        windows := { s.windows with
          records := s.windows.records.modify s.windows.counter fun _ => { v with cane := w.cane + p }
          pacing := s.windows.pacing + p }
        shift := { s.shift with acc := { s.shift.acc with cane := s.shift.acc.cane.plus p } } }))
    (∀ older kg, d.parts = older ++ [⟨s.windows.counter, kg⟩] →
      exec (.inputHoldExpiry .cp) s =
        booked (older ++ [⟨s.windows.counter, kg + p⟩]) false { w with attributed := w.attributed + p }) ∧
    (d.parts.length < 8 → (∀ q, d.parts.getLast? = some q → q.window ≠ s.windows.counter) →
      exec (.inputHoldExpiry .cp) s =
        booked (d.parts ++ [⟨s.windows.counter, p⟩]) false { w with attributed := w.attributed + p, refs := w.refs + 1 }) ∧
    (∀ older q, d.parts = older ++ [q] → older.length = 7 → q.window ≠ s.windows.counter →
      exec (.inputHoldExpiry .cp) s =
        booked (older ++ [⟨q.window, q.kg + p⟩]) true { w with folded := w.folded + p })) ∧
  (∀ (s : State) (n : Nat) (rest : List Nat) (d : Delivery) (w : Window) (older : List Part) (kg : Nat),
    s.canonical → s.edgeDue .cp → s.feed = n :: rest → n ∉ rest → s.delivery? n = some d →
    d.parts = older ++ [⟨s.windows.counter, kg⟩] → d.queueMass - d.crushed ≤ s.lines.cpMass → 0 < s.lines.cpMass →
    s.window? s.windows.counter = some w → w.state = .opened → w.extended = false →
    let p := s.lines.cpMass
    let rem := d.queueMass - d.crushed
    let spill := p - rem
    spill = 0 ∨ rest = [] →
    fits32 (w.cane + p) → fits32 (w.attributed + rem) → fits32 (w.orphan + spill) → fits32 (s.windows.pacing + p) →
    s.windows.pacing + p < s.shift.working.target / s.shift.working.strokes →
    let t := s.levelTaken .cp
    let tested (u : State) : State :=
      if s.shift.working.target ≤ w.cane + p then u.triggerClose s.shift.number else u
    let booked : State :=
      { t with
          feed := rest
          dt := { s.dt with records := s.dt.records.modify n fun d => { d with
            crushed := d.crushed + rem, parts := older ++ [⟨s.windows.counter, kg + rem⟩], state := .crushed } }
          windows := { s.windows with
            records := s.windows.records.modify s.windows.counter fun _ => { w with
              cane := w.cane + p, attributed := w.attributed + rem, orphan := w.orphan + spill }
            pacing := s.windows.pacing + p }
          shift := { s.shift with acc := { s.shift.acc with
            cane := s.shift.acc.cane.plus p
            orphan := if 0 < spill then s.shift.acc.orphan.plus spill else s.shift.acc.orphan } } }
    exec (.inputHoldExpiry .cp) s =
      .next (State.settleLink (tested (if 0 < spill then booked.raise .orphanCane else booked))))

/-- Every kilogram of a cane pulse is accounted for, whatever the Feed Queue holds and however many deliveries it
finishes: the OPEN window's cane rises by the pulse mass and stays equal to its attributed, folded and orphan mass
together, wherever those figures fit their 32 bits (R34, R37, R38). -/
def Obligations.CanePulsesAreAccountedForInFull : Prop :=
  ∀ (s : State) (w : Window), s.edgeDue .cp → s.window? s.windows.counter = some w → w.balanced →
    fits32 (w.cane + s.lines.cpMass) → s.link.input = [] →
    ∃ t v, exec (.inputHoldExpiry .cp) s = .next t ∧ t.window? s.windows.counter = some v ∧
      v.cane = w.cane + s.lines.cpMass ∧ v.balanced

/-- Each active edge on JP, and on WP, adds the line's pulse mass to the OPEN window's juice, or water, and to the
shift's accumulator; neither moves the pacing cane (R58). -/
def Obligations.JuiceAndWaterPulsesAreCounted : Prop :=
  ∀ (s : State) (w : Window), s.canonical → s.window? s.windows.counter = some w →
    (s.edgeDue .jp → fits32 (w.juice + s.lines.jpMass) →
      exec (.inputHoldExpiry .jp) s = .next (State.settleLink { s.levelTaken .jp with
        windows := { s.windows with records := s.windows.records.modify s.windows.counter fun w => { w with
          juice := w.juice + s.lines.jpMass } }
        shift := { s.shift with acc := { s.shift.acc with juice := s.shift.acc.juice.plus s.lines.jpMass } } })) ∧
    (s.edgeDue .wp → fits32 (w.water + s.lines.wpMass) →
      exec (.inputHoldExpiry .wp) s = .next (State.settleLink { s.levelTaken .wp with
        windows := { s.windows with records := s.windows.records.modify s.windows.counter fun w => { w with
          water := w.water + s.lines.wpMass } }
        shift := { s.shift with acc := { s.shift.acc with water := s.shift.acc.water.plus s.lines.wpMass } } }))

/-- TR rising to high with a stroke due and no command outstanding: one command issues. The OPEN window's strokes
commanded rise by one, the pacing cane falls by the spacing, the command is outstanding with its confirm time, and
SC goes on for 500 ms, after a gap of 20 ms if it was still on (R55, R147, R149). SC_PULSE_END turns SC off, and
SC_GAP_END turns it on for 500 ms; the outstanding command is not touched (R149). -/
def Obligations.SamplerCommandsAreIssuedAndPulsed : Prop :=
  (∀ (s : State) (w : Window), s.canonical → s.edgeDue .tr → s.window? s.windows.counter = some w → s.lines.command = none →
     s.shift.working.target / s.shift.working.strokes ≤ s.windows.pacing → fits32 (w.commanded + 1) →
     let t := s.levelTaken .tr
     exec (.inputHoldExpiry .tr) s = .next (State.settleLink { t with
       windows := { s.windows with
         records := s.windows.records.modify s.windows.counter fun w => { w with commanded := w.commanded + 1 }
         pacing := s.windows.pacing - s.shift.working.target / s.shift.working.strokes }
       lines := { t.lines with
         sc := (match s.lines.sc with | .off => .on 500 | .on _ => .gap 20 | .gap left => .gap left)
         command := some ⟨s.windows.counter, s.shift.working.confirm * 1000⟩ } })) ∧
  (∀ (s : State) (left : Nat),
     (s.lines.sc = .on left →
       exec .scPulseEnd s = .next (State.settleLink { s with lines := { s.lines with sc := .off } })) ∧
     (s.lines.sc = .gap left →
       exec .scGapEnd s = .next (State.settleLink { s with lines := { s.lines with sc := .on 500 } })))

/-- An active edge on SS ends the outstanding command: its window's strokes seen rise by one while it is OPEN or CLOSED,
THIN being judged again when CLOSED, and a due command is then tested for; with no command outstanding the edge
changes nothing but the level (R55, R56, R57, R150). STROKE_CONFIRM_EXPIRY ends the outstanding command and raises
SAMPLER_MISS: its window's strokes missed rise by one while it is OPEN or CLOSED; a CLOSED window with no stroke
seen goes VOID with NO_STROKES and its record is asked for; a window final or released keeps its figures; a due
command is then tested for (R55, R56, R57). -/
def Obligations.StrokesAreCountedToTheirWindow : Prop :=
  (∀ s : State, s.canonical → s.edgeDue .ss →
     (s.lines.command = none → exec (.inputHoldExpiry .ss) s = .next (s.levelTaken .ss).settleLink) ∧
     (∀ c w, s.lines.command = some c → s.window? c.window = some w → fits32 (w.seen + 1) →
       let t := s.levelTaken .ss
       let ended : State := { t with lines := { t.lines with command := none } }
       let counted (v : Window) : Host.Outcome State Fault Refusal :=
         .next (State.settleLink (State.samplerTest (ended.modWindow c.window fun _ => v)))
       (w.state = .opened → exec (.inputHoldExpiry .ss) s = counted { w with seen := w.seen + 1 }) ∧
       (w.state = .closed → exec (.inputHoldExpiry .ss) s = counted { w with
         seen := w.seen + 1, thin := decide (w.seen + 1 < s.shift.working.minStrokes) }) ∧
       (w.state = .resulted ∨ w.state = .voided → exec (.inputHoldExpiry .ss) s = counted w))) ∧
  (∀ (s : State) (c : SamplerCommand), s.canonical → s.lines.command = some c →
     let ended : State := State.raise { s with lines := { s.lines with command := none } } .samplerMiss
     (∀ w, s.window? c.window = some w → fits32 (w.missed + 1) →
       let counted (v : Window) : State := ended.modWindow c.window fun _ => v
       (w.state = .opened ∨ (w.state = .closed ∧ 0 < w.seen) →
         exec .strokeConfirmExpiry s = .next (State.settleLink (counted { w with missed := w.missed + 1 }).samplerTest)) ∧
       (w.state = .closed → w.seen = 0 →
         let v : Window := { w with
           state := .voided, missed := w.missed + 1, noStrokes := true, quality := some s.fallback, fallback := true }
         exec .strokeConfirmExpiry s = .next (State.settleLink
           ((counted v).requestWrite (.window c.window) (.window c.window v)).samplerTest)) ∧
       (w.state = .resulted ∨ w.state = .voided → exec .strokeConfirmExpiry s = .next ended.samplerTest.settleLink)) ∧
     (s.window? c.window = none → exec .strokeConfirmExpiry s = .next ended.samplerTest.settleLink))

/-! ## Field lines -/

/-- RAW_LEVEL_CHANGE: away from the filtered level the hold timer starts at 0, back to it the timer stops, an unsettled
line times its new level afresh, and the level the wire has already changes nothing; the filtered level stays (R143,
R154). INPUT_HOLD_EXPIRY elsewhere: the filtered level takes the raw one. A pulse line that was unsettled, or that
falls to inactive, delivers nothing; a beam is judged by its bridge at once; TR falling delivers nothing; and with
no hold timer on a settled line nothing happens (R143, R144, R147, R148, R154). -/
def Obligations.FilteredLevelsFollowTheWire : Prop :=
  (∀ (s : State) (line : InputLine) (high : Bool),
     let i := s.lines.input line
     (i.raw = high → exec (.rawLevelChange line high) s = .next (s.setInput line i).settleLink) ∧
     (i.raw ≠ high → i.filtered = some (!high) →
       exec (.rawLevelChange line high) s =
         .next (s.setInput line { i with raw := high, hold := some 0 }).settleLink) ∧
     (i.raw ≠ high → i.filtered = none →
       exec (.rawLevelChange line high) s =
         .next (s.setInput line { i with raw := high, steady := 0 }).settleLink) ∧
     (i.raw ≠ high → i.filtered = some high →
       exec (.rawLevelChange line high) s = .next (s.setInput line { i with raw := high, hold := none }).settleLink)) ∧
  (∀ s : State,
     (∀ line, line ∈ [InputLine.cp, .jp, .wp, .ss] →
       ((s.lines.input line).filtered = none ∨
         ((s.lines.input line).hold.isSome = true ∧ (s.lines.input line).level = some true)) →
       exec (.inputHoldExpiry line) s = .next (s.levelTaken line).settleLink) ∧
     (∀ b, (s.lines.input (.e b)).filtered = none ∨ (s.lines.input (.e b)).hold.isSome = true →
       exec (.inputHoldExpiry (.e b)) s = .next ((s.levelTaken (.e b)).judgePresence b).settleLink) ∧
     (∀ b, (s.lines.input (.x b)).filtered = none ∨ (s.lines.input (.x b)).hold.isSome = true →
       exec (.inputHoldExpiry (.x b)) s = .next ((s.levelTaken (.x b)).judgePresence b).settleLink) ∧
     ((s.levelTaken .tr).lines.tr.level = some false → (s.lines.tr.filtered = none ∨ s.lines.tr.hold.isSome = true) →
       exec (.inputHoldExpiry .tr) s = .next (s.levelTaken .tr).settleLink) ∧
     (∀ line, (s.lines.input line).filtered.isSome = true → (s.lines.input line).hold = none →
       exec (.inputHoldExpiry line) s = .next s.settleLink))

/-- Presence (R93, R94, R123): a reading at or above the empty threshold or a broken beam sets PRESENT, stops the clear
hold, ends the stability period and takes an IDLE bridge to ARRIVED; a deck that becomes clear while PRESENT is set
starts the clear hold at 2 s. -/
def Obligations.PresenceIsJudgedByReadingAndBeams : Prop :=
  ∀ (s : State) (b : BridgeNo),
    let broken := (s.lines.e.get b).level = some true ∨ (s.lines.x.get b).level = some true
    let heavy := ∃ r, (s.channel b).rounded = some r ∧
      (((s.channel b).active.threshold * (s.channel b).active.division : Nat) : Int) ≤ r
    (broken ∨ heavy → (s.bridge b).present = false →
      s.judgePresence b = ((s.modBridge b fun x => { x with
        present := true, clearHold := none, state := if x.state = .idle then .arrived else x.state }).modChannel b
          fun c => if c.period.isSome then { c with period := none, lastStable := false } else c)) ∧
    (broken ∨ heavy → (s.bridge b).present = true →
      s.judgePresence b = s.modBridge b fun x => { x with clearHold := none }) ∧
    (¬ heavy → (s.lines.e.get b).level = some false → (s.lines.x.get b).level = some false →
      (s.bridge b).present = true → (s.bridge b).clearHold = none →
      s.judgePresence b = s.modBridge b fun x => { x with clearHold := some 2000 })

/-- LINE SET: with no setting given it shows the line and changes nothing; a pulse mass of CP, JP or WP is kept for the
line's next edge; a lamp's safe value is kept, and shown at once where the bridge demands SAFE (R145, R152, R155). A new
polarity of a settled line is delivered as a change: a beam is judged by its bridge, TR read as high is tested for a due
stroke, and a pulse line delivers nothing; a new filter time that the waiting level has held for, by its hold timer or
on an unsettled line since it was last seen to change, takes the level at once (R143, R147, R148, R154, R155). A line
that does not exist, a setting the line does not have and a value out of its range are refused BAD_FIELD (R155). -/
def Obligations.LinesAreReadAndSet : Prop :=
  ∀ (s : State) (tag : Byte), s.ready →
    (∀ id t, lineOf id = some t →
      exec (.lineSet tag id []) s = .next (s.okReply 0xD1 tag (.line (s.lineReport t)))) ∧
    (∀ kg, 10 ≤ kg → kg ≤ 500 → kg % 10 = 0 →
      let t : State := { s with lines := { s.lines with cpMass := kg } }
      exec (.lineSet tag 9 [(3, kg)]) s = .next (t.okReply 0xD1 tag (.line (t.lineReport (.input .cp))))) ∧
    (∀ kg, 1 ≤ kg → kg ≤ 100 →
      (let t : State := { s with lines := { s.lines with jpMass := kg } }
       exec (.lineSet tag 10 [(3, kg)]) s = .next (t.okReply 0xD1 tag (.line (t.lineReport (.input .jp))))) ∧
      (let t : State := { s with lines := { s.lines with wpMass := kg } }
       exec (.lineSet tag 11 [(3, kg)]) s = .next (t.okReply 0xD1 tag (.line (t.lineReport (.input .wp)))))) ∧
    (∀ b v, v ≤ 2 →
      let safe : SafeValue := if v = 0 then .off else if v = 1 then .on else .hold
      let lamp (old : Lamp) (demand : LampDemand) : Lamp := { old with
        safe := safe
        on := if demand = .safe then (if v = 0 then false else if v = 1 then true else old.on) else old.on }
      (let t : State := { s with lines := { s.lines with
         entryLamp := s.lines.entryLamp.set b (lamp (s.lines.entryLamp.get b) (entryDemand (s.bridge b))) } }
       exec (.lineSet tag (13 + bridgeCode b) [(4, v)]) s =
         .next (t.okReply 0xD1 tag (.line (t.lineReport (.entryLamp b))))) ∧
      (let t : State := { s with lines := { s.lines with
         exitLamp := s.lines.exitLamp.set b (lamp (s.lines.exitLamp.get b) (exitDemand (s.bridge b))) } }
       exec (.lineSet tag (17 + bridgeCode b) [(4, v)]) s =
         .next (t.okReply 0xD1 tag (.line (t.lineReport (.exitLamp b)))))) ∧
    (∀ id line v, lineOf id = some (.input line) → v ≤ 1 →
      let i := s.lines.input line
      let p : Polarity := if v = 0 then .activeHigh else .activeLow
      let set := s.setInput line { i with polarity := p }
      let answered (t : State) : Prop :=
        exec (.lineSet tag id [(1, v)]) s = .next (t.okReply 0xD1 tag (.line (t.lineReport (.input line))))
      (p = i.polarity ∨ i.filtered = none ∨ line ∈ [InputLine.cp, .jp, .wp, .ss] → answered set) ∧
      (p ≠ i.polarity → i.filtered ≠ none →
        (∀ b, line = .e b ∨ line = .x b → answered (set.judgePresence b)) ∧
        (line = .tr → answered (if set.lines.tr.level = some true then set.samplerTest else set)))) ∧
    (∀ id line ms, lineOf id = some (.input line) → ms ∈ [1, 2, 5, 10, 20, 50, 100, 200] →
      let i := s.lines.input line
      let set := s.setInput line { i with filterMs := ms }
      let answered (t : State) : Prop :=
        exec (.lineSet tag id [(2, ms)]) s = .next (t.okReply 0xD1 tag (.line (t.lineReport (.input line))))
      (i.filtered = none → (ms ≤ i.steady → answered (set.takeLevel line)) ∧ (i.steady < ms → answered set)) ∧
      (i.filtered ≠ none →
        (i.hold = none → answered set) ∧
        (∀ held, i.hold = some held →
          (ms ≤ held → answered (set.takeLevel line)) ∧ (held < ms → answered set)))) ∧
    (∀ id es, id = 0 ∨ 23 < id → exec (.lineSet tag id es) s = .next (s.refusal 0xD1 tag .badField)) ∧
    (∀ id t es e, lineOf id = some t → e ∈ es → settingOk t e.1 e.2 = false →
      exec (.lineSet tag id es) s = .next (s.refusal 0xD1 tag .badField))

/-! ## Shift profiles -/

/-- PROFILE LOAD writes every given value into the named shadow in one step and answers the shadow, leaving the working
profile; a load whose result breaks a cross-field condition, a field given twice and a profile that is no shadow are
refused BAD_FIELD (R157, R158). -/
def Obligations.ProfilesAreLoadedIntoTheirShadow : Prop :=
  ∀ (s : State) (tag : Byte) (es : List (Nat × Nat)), s.ready →
    1 ≤ es.length → es.length ≤ 26 → (es.map (·.1)).Nodup → (∀ e ∈ es, profileFieldOk e.1 e.2 = true) →
    let loaded (p : Profile) : Profile := es.foldl Profile.setField p
    ((loaded s.shift.shadowA).minStrokes ≤ (loaded s.shift.shadowA).strokes →
      (loaded s.shift.shadowA).defaultPol ≤ (loaded s.shift.shadowA).defaultBrix →
      exec (.profileLoad tag 1 es) s = .next (State.okReply
        { s with shift := { s.shift with shadowA := loaded s.shift.shadowA } } 0xC0 tag
        (.profile (loaded s.shift.shadowA)))) ∧
    ((loaded s.shift.shadowB).minStrokes ≤ (loaded s.shift.shadowB).strokes →
      (loaded s.shift.shadowB).defaultPol ≤ (loaded s.shift.shadowB).defaultBrix →
      exec (.profileLoad tag 2 es) s = .next (State.okReply
        { s with shift := { s.shift with shadowB := loaded s.shift.shadowB } } 0xC0 tag
        (.profile (loaded s.shift.shadowB)))) ∧
    ((loaded s.shift.shadowA).strokes < (loaded s.shift.shadowA).minStrokes ∨
      (loaded s.shift.shadowA).defaultBrix < (loaded s.shift.shadowA).defaultPol →
      exec (.profileLoad tag 1 es) s = .next (s.refusal 0xC0 tag .badField)) ∧
    (∀ id v v', exec (.profileLoad tag 1 ((id, v) :: (id, v') :: es)) s = .next (s.refusal 0xC0 tag .badField)) ∧
    (∀ p, p = 0 ∨ 2 < p → exec (.profileLoad tag p es) s = .next (s.refusal 0xC0 tag .badField))

/-- SHIFT MARK, its tests passed: a slot is held, the OPEN window is closed into the new shift or else extended, the
SHIFT record's contents are fixed, the named shadow (for REPEAT the last one) becomes the working profile, the new
shift begins with its accumulators and quality sums at 0, and the record is asked for (R54, R162, R163, R164; that
the reply names the window OPEN at the mark is log 31). WRITE_COMPLETE of the SHIFT record, with nothing else to write: no
record is owed, the slot is consumed, and SHIFT CLOSED is made with the record's sequence number (R164, R176). -/
def Obligations.ShiftMarksBeginANewShift : Prop :=
  (∀ (s : State) (f : InFlight) (x : ShiftBody), s.loneWrite f → f.request = ⟨.shiftUnit, .shift x⟩ →
    exec .writeComplete s = .next (State.settleLink (State.notify
      { s with shift := { s.shift with owed := none }, store := s.store.completed f }
      (.shiftClosed f.record.sequence x)))) ∧
  ∀ (s : State) (tag : Byte) (code : Nat) (letter : Letter), s.ready →
    (code = 1 ∧ letter = .a) ∨ (code = 2 ∧ letter = .b) ∨ (code = 3 ∧ s.shift.lastLetter = some letter) →
    s.shift.owed = none → s.store.state ≠ .failed → s.store.reserved + 1 ≤ s.free → fits32 (s.shift.number + 1) →
    let r := s.reserve 1
    let extends_ := !r.canOpen
    let c := if r.canOpen then r.closeWindow (s.shift.number + 1) else r.extendWindow
    let body : ShiftBody :=
      { number := s.shift.number, letter := s.shift.letter, start := s.shift.start, finish := s.clock.reading
        acc := c.shift.acc, window := s.windows.counter, extended := extends_ }
    let z : Acc := ⟨0, false⟩
    exec (.shiftMark tag code) s = .next (State.okReply
      (State.requestWrite
        { c with
            shift := { c.shift with
              working := (match letter with | .a => s.shift.shadowA | .b => s.shift.shadowB)
              number := s.shift.number + 1, letter := some letter, start := s.clock.reading, lastLetter := some letter
              acc := ⟨z, z, z, z, z, z, z, z, z⟩, owed := some (.shift body) }
            windows := { c.windows with sumCanePol := 0, sumCaneBrix := 0, sumCane := 0 } }
        .shiftUnit (.shift body))
      0xC2 tag (.shiftMarked (s.shift.number + 1) letter s.windows.counter extends_))

/-- SEASON OPEN, its tests passed: the reply names the new season, window 1 is OPEN in shift 1, deliveries count from 0,
the Feed Queue is empty, every grower keeps its code and fibre alone, the SEASON record is owed and in flight or
waiting, streams are cut, and vehicles, bridges, channels, clocks, line settings, link settings and the store's
figures are kept (R165, R166, R197). WRITE_COMPLETE of the SEASON record, with nothing else to write: no record is owed
and the slot is consumed (R166, R176). -/
def Obligations.SeasonsOpenWithCleanAccounts : Prop :=
  (∀ (s : State) (f : InFlight) (x : SeasonBody), s.loneWrite f → f.request = ⟨.shiftUnit, .season x⟩ →
    exec .writeComplete s = .next (State.settleLink
      { s with shift := { s.shift with owed := none }, store := s.store.completed f })) ∧
  ∀ (s : State) (tag : Byte), s.ready → s.store.state ≠ .failed → s.store.exportMark = s.store.lastSequence →
    s.store.anyRequest = false → s.shift.owed = none → (∀ b, (s.channel b).owed = none) → s.dt.records = [] →
    (∀ b, (s.bridge b).binding = none) → (∀ b, (s.channel b).pending = none) → (∀ b, (s.channel b).session = none) →
    s.store.reserved + 1 ≤ s.free → fits32 (s.shift.season + 1) →
    ∃ t, exec (.seasonOpen tag) s = .next t ∧
      t.dt = ⟨[], 0, 0⟩ ∧ t.feed = [] ∧
      t.windows = { records := [(1, Window.fresh 1 s.clock.reading)], counter := 1, pacing := 0, sumCanePol := 0
                    sumCaneBrix := 0, sumCane := 0 } ∧
      t.growers = s.growers.map (fun p => (p.1,
        { fibre := p.2.fibre, settled := 0, netTotal := 0, payableTotal := 0, juiceTotal := 0, openCount := 0
          lastSettled := none, saturated := false })) ∧
      (t.shift.season = s.shift.season + 1 ∧ t.shift.number = 1 ∧ t.shift.start = s.clock.reading ∧
        t.shift.letter = s.shift.lastLetter ∧ t.shift.lastLetter = s.shift.lastLetter ∧
        t.shift.acc = Accumulators.zeros ∧ t.shift.working = s.shift.working ∧ t.shift.shadowA = s.shift.shadowA ∧
        t.shift.shadowB = s.shift.shadowB) ∧
      (let body : SeasonBody :=
        { season := s.shift.season, lastDelivery := s.dt.counter, lastWindow := s.windows.counter
          number := s.shift.number, letter := s.shift.letter, start := s.shift.start, finish := s.clock.reading
          acc := s.shift.acc }
       t.shift.owed = some (.season body) ∧
       ∃ f, t.store.inFlight = some f ∧ f.request = ⟨.shiftUnit, .season body⟩ ∧
        f.record.sequence = add32 s.store.lastSequence 1) ∧
      (t.store.lastSequence = s.store.lastSequence ∧ t.store.exportMark = s.store.exportMark ∧
        t.store.badSlots = s.store.badSlots) ∧
      (t.vehicles = s.vehicles ∧ t.bridges = s.bridges ∧ t.channels = s.channels ∧ t.clock = s.clock ∧
        t.pending = s.pending) ∧
      t.lines = { s.lines with command := none, al := t.lines.al } ∧
      (t.link.minRun = s.link.minRun ∧ t.link.maxRun = s.link.maxRun ∧ t.link.receiver = s.link.receiver ∧
        t.link.input = []) ∧
      (s.link.sending.isSome = true → t.link.sending = s.link.sending ∧
        t.link.slot1 = s.link.slot1.map (fun x => { x with cut := true }) ∧
        t.link.slot2 = s.link.slot2.map (fun x => { x with cut := true }) ∧
        t.link.replies = s.link.replies ++ [⟨0xC3, tag, .ok, .season (s.shift.season + 1)⟩])

/-! ## Load-cell channels -/

/-- CONFIG OPEN makes a pending copy of the active record, with the defaults of an all-zero one, and answers the
pending, the active and the calibration record; with a pending configuration, or while CALIBRATING, it is refused
WRONG_STATE (R127, R128). CONFIG DISCARD removes the pending configuration, and gives back the slot of a held one;
with none pending it is refused WRONG_STATE (R132). CONFIG SET, every test in order: a channel outside 1 to 4
BAD_FIELD; nothing pending, or the pending held, WRONG_STATE; a given field outside its range BAD_FIELD. Else every
given field is written into the pending record, which the reply carries (R129). -/
def Obligations.ConfigurationsAreStaged : Prop :=
  (∀ (s : State) (tag : Byte) (b : BridgeNo), s.ready →
     (∀ n, n = 0 ∨ 4 < n → exec (.configOpen tag n) s = .next (s.refusal 0xC8 tag .badField) ∧
       exec (.configDiscard tag n) s = .next (s.refusal 0xCB tag .badField)) ∧
     ((s.channel b).pending = none → (s.bridge b).state ≠ .calibrating →
       let c := (s.channel b).active
       let copy : ChannelConfig := if c = ⟨0, 0, 0, 0, 0, 0⟩ then ⟨0, 0, 0, 0, 20, 4⟩ else c
       exec (.configOpen tag (bridgeCode b)) s = .next (State.okReply
         (s.modChannel b fun x => { x with pending := some ⟨copy, false⟩ }) 0xC8 tag
         (.configOpened copy c (s.channel b).cal))) ∧
     ((s.channel b).pending.isSome = true ∨ (s.bridge b).state = .calibrating →
       exec (.configOpen tag (bridgeCode b)) s = .next (s.refusal 0xC8 tag .wrongState)) ∧
     ((s.channel b).pending = none →
       exec (.configDiscard tag (bridgeCode b)) s = .next (s.refusal 0xCB tag .wrongState)) ∧
     (∀ p, (s.channel b).pending = some p →
       let gone := s.modChannel b fun x => { x with pending := none }
       exec (.configDiscard tag (bridgeCode b)) s =
         .next (State.okReply (if p.held then gone.giveBack 1 else gone) 0xCB tag .none))) ∧
  (∀ (s : State) (tag : Byte) (es : List (Nat × Nat)), s.ready →
     let refused (n : Nat) (code : ResultCode) : Prop := exec (.configSet tag n es) s = .next (s.refusal 0xC9 tag code)
     (∀ n, n = 0 ∨ 4 < n → refused n .badField) ∧
     ∀ b : BridgeNo,
       ((s.channel b).pending = none → refused (bridgeCode b) .wrongState) ∧
       (∀ p, (s.channel b).pending = some p → p.held = true → refused (bridgeCode b) .wrongState) ∧
       (∀ p, (s.channel b).pending = some p → p.held = false →
         ((∃ e ∈ es, configFieldOk e.1 e.2 = false) → refused (bridgeCode b) .badField) ∧
         (1 ≤ es.length → es.length ≤ 6 → (es.map (·.1)).Nodup → (∀ e ∈ es, configFieldOk e.1 e.2 = true) →
           let set := es.foldl ChannelConfig.setField p.config
           exec (.configSet tag (bridgeCode b) es) s = .next (State.okReply
             (s.modChannel b fun x => { x with pending := some ⟨set, false⟩ }) 0xC9 tag (.config set)))))

/-- CONFIG APPLY of a complete pending record, with its tests passed: one slot is held; on an IDLE or LOCKED bridge
the configuration is applied at once, else it becomes held (R130). What an application does (R131): the pending record
becomes the active one; a change of capacity or division makes the calibration NOMINAL and the current zero 0; a
change of filter code, or the first application, empties the mean; the CONFIG record is owed and CONFIG APPLIED made;
the stability period ends; an IDLE bridge with an invalid calibration locks CAL_INVALID with BRIDGE LOCKED made, and
stays IDLE with a valid one unless the new threshold judges a vehicle present (log 27); a bridge LOCKED as
UNCONFIGURED takes its next standing cause. WRITE_COMPLETE of the CONFIG record, with nothing else to write: the
record owed is removed and the slot consumed (R131, R176). -/
def Obligations.ConfigurationsAreApplied : Prop :=
  (∀ (s : State) (f : InFlight) (b : BridgeNo) (x : ConfigBody), s.loneWrite f → f.request = ⟨.channel b, .config x⟩ →
    exec .writeComplete s = .next (State.settleLink
      (State.modChannel { s with store := s.store.completed f } b fun c => { c with owed := none }))) ∧
  (∀ (s : State) (tag : Byte) (b : BridgeNo) (p : PendingConfig), s.ready → (s.channel b).pending = some p →
     p.held = false → (s.bridge b).state ≠ .calibrating → (s.channel b).owed = none → p.config.complete = true →
     s.store.state ≠ .failed → s.store.reserved + 1 ≤ s.free →
     ((s.bridge b).state = .idle ∨ (s.bridge b).state = .locked →
       exec (.configApply tag (bridgeCode b)) s =
         .next (State.okReply ((s.reserve 1).applyConfig b false) 0xCA tag (.applied false))) ∧
     ((s.bridge b).state ≠ .idle → (s.bridge b).state ≠ .locked →
       exec (.configApply tag (bridgeCode b)) s = .next (State.okReply
         ((s.reserve 1).modChannel b fun x => { x with pending := some { p with held := true } }) 0xCA tag (.applied true)))) ∧
  (∀ (s : State) (b : BridgeNo) (p : PendingConfig) (held : Bool), (s.channel b).pending = some p →
     p.config ≠ ⟨0, 0, 0, 0, 0, 0⟩ →
     let old := (s.channel b).active
     let nominal := decide (old.capacity ≠ p.config.capacity ∨ old.division ≠ p.config.division)
     let t := s.applyConfig b held
     (t.channel b).active = p.config ∧ (t.channel b).pending = none ∧ (t.channel b).period = none ∧
     (t.channel b).cal =
       (if nominal then
         { zeroCounts := 0, spanCounts := 4000000, testMass := p.config.capacity, valid := false
           outcome := (s.channel b).cal.outcome }
       else (s.channel b).cal) ∧
     (t.channel b).owed = some (.config { channel := b, madeNominal := nominal, new := p.config, replaced := old }) ∧
     (t.bridge b).currentZero = (if nominal then 0 else (s.bridge b).currentZero) ∧
     (old.filter ≠ p.config.filter ∨ old = ⟨0, 0, 0, 0, 0, 0⟩ →
       (t.channel b).mean = [] ∧ (t.channel b).rounded = none ∧ (t.channel b).overrange = false ∧
         (t.channel b).underrange = false) ∧
     ((s.bridge b).state = .idle → (t.channel b).cal.valid = false →
       (t.bridge b).state = .locked ∧ (t.bridge b).lockCause = some .calInvalid) ∧
     ((s.bridge b).state = .idle → (t.channel b).cal.valid = true → (t.bridge b).state =
       (if (t.bridge b).present = true ∧ (s.bridge b).present = false then .arrived else .idle)) ∧
     ((s.bridge b).state = .locked → (s.bridge b).lockCause = some .unconfigured → old = ⟨0, 0, 0, 0, 0, 0⟩ →
       (t.channel b).cal.valid = false →
       (t.bridge b).state = .locked ∧ (t.bridge b).lockCause = some .calInvalid) ∧
     (let told := s.notify (.configApplied b p.config held nominal)
      ((s.bridge b).state = .idle → (t.channel b).cal.valid = false →
        t.link = ((told.notify (.bridgeLocked b .calInvalid none)).raise .bridgeLocked).link) ∧
      ((s.bridge b).state ≠ .idle ∨ (t.channel b).cal.valid = true → t.link = told.link)) ∧
     (∀ c, c ≠ b → t.bridge c = s.bridge c ∧ t.channel c = s.channel c) ∧
     (t.dt = s.dt ∧ t.feed = s.feed ∧ t.windows = s.windows ∧ t.growers = s.growers ∧ t.vehicles = s.vehicles ∧
       t.shift = s.shift ∧ t.clock = s.clock ∧ t.pending = s.pending))

/-- CAL BEGIN on an IDLE bridge, or on one LOCKED with CAL_INVALID or ZERO_BAND: a slot is held, a session opens with
its 30-minute idle limit, and the bridge enters CALIBRATING, recording where it came from (R112, R134). CAL ZERO and
CAL SPAN in a session with no step in progress and no COMMIT taken: the step begins with its 120 s limit, its
earlier result goes, the idle limit starts again and the stability period ends; a test mass outside a tenth of the
capacity to the capacity is refused BAD_FIELD, and with a step in progress both are refused WRONG_STATE (R135). -/
def Obligations.CalibrationSessionsBeginAndStep : Prop :=
  (∀ (s : State) (tag : Byte) (b : BridgeNo), s.ready → (s.channel b).owed = none →
     (∀ p, (s.channel b).pending = some p → p.held = false) → s.store.state ≠ .failed → s.store.reserved + 1 ≤ s.free →
     let fresh : Session := { zeroResult := none, spanResult := none, step := none, idle := some 1800000, committed := false, wireOff := false }
     let begun (entry : EntryState) : Host.Outcome State Fault Refusal := .next (State.okReply
       (((s.reserve 1).modChannel b fun c => { c with session := some fresh }).modBridge b
         fun x => { x with
           state := .calibrating, entry := some entry, lockCause := none, zeroRequest := false, overTimer := .stopped
           underTimer := .stopped }) 0xCC tag .none)
     ((s.bridge b).state = .idle → exec (.calBegin tag (bridgeCode b)) s = begun .idle) ∧
     (∀ cause, (s.bridge b).state = .locked → (s.bridge b).lockCause = some cause →
       (cause = .calInvalid ∨ cause = .zeroBand → exec (.calBegin tag (bridgeCode b)) s = begun (.locked cause)) ∧
       (cause ≠ .calInvalid → cause ≠ .zeroBand →
         exec (.calBegin tag (bridgeCode b)) s = .next (s.refusal 0xCC tag .locked))) ∧
     ((s.bridge b).state ≠ .idle → (s.bridge b).state ≠ .locked →
       exec (.calBegin tag (bridgeCode b)) s = .next (s.refusal 0xCC tag .wrongState))) ∧
  (∀ (s : State) (tag : Byte) (b : BridgeNo) (x : Session) (m : Nat), s.ready → (s.channel b).session = some x →
     let stepped (y : Session) : State := s.modChannel b fun c => { c with
       session := some y, period := none, lastStable := if c.period.isSome then false else c.lastStable }
     (x.step = none → x.committed = false →
       exec (.calZero tag (bridgeCode b)) s = .next (State.okReply
         (stepped { x with zeroResult := none, step := some ⟨.zero, 120000⟩, idle := some 1800000 }) 0xCD tag .none) ∧
       ((s.channel b).active.capacity ≤ m * 10 → m ≤ (s.channel b).active.capacity →
         exec (.calSpan tag (bridgeCode b) m) s = .next (State.okReply
           (stepped { x with spanResult := none, step := some ⟨.span m, 120000⟩, idle := some 1800000 }) 0xCE tag .none))) ∧
     (m * 10 < (s.channel b).active.capacity ∨ (s.channel b).active.capacity < m →
       exec (.calSpan tag (bridgeCode b) m) s = .next (s.refusal 0xCE tag .badField)) ∧
     (x.step.isSome = true ∨ x.committed = true →
       exec (.calZero tag (bridgeCode b)) s = .next (s.refusal 0xCD tag .wrongState) ∧
       ((s.channel b).active.capacity ≤ m * 10 → m ≤ (s.channel b).active.capacity →
         exec (.calSpan tag (bridgeCode b) m) s = .next (s.refusal 0xCE tag .wrongState))))

/-- CAL END: ABANDON ends the session, gives its slot back and returns the bridge to its entry state; a COMMIT whose
span counts exceed the zero counts by less than 10,000 does so too, with last outcome BAD and CAL STEP; a good COMMIT
asks for the CAL record and waits for it with the idle limit stopped; without both results it is refused WRONG_STATE
(R112, R137). That a bad COMMIT ends the stability period is log 33, from R123; that a session's end on a bridge found
LOCKED makes BRIDGE LOCKED and its flag anew is log 13, from R109. CAL_STEP_TIMEOUT ends the step in progress with no
result and makes CAL STEP with TIMED_OUT, the session staying open (R136); CAL_IDLE_TIMEOUT while the idle limit runs
abandons the session and makes CAL STEP with ABANDONED (R137). WRITE_COMPLETE of a session's CAL record, with nothing
else to write: the calibration is the session's, VALID and DONE, the slot is consumed, the session ends, the zero
counts are the current zero with backlog 0, ZERO_DUE clear and the deadline re-armed, and the bridge goes to IDLE or
ARRIVED, or, after a wire-off raised during the write, to LOCKED with WIRE_OFF (R112, R138; that it does so whether or
not the flag still stands is log 14). CAL STEP is made with COMMIT and DONE, and after it, at that LOCKED, BRIDGE
LOCKED (R109, R138). -/
def Obligations.CalibrationSessionsEnd : Prop :=
  (∀ (s : State) (tag : Byte) (b : BridgeNo) (x : Session), s.ready → (s.channel b).session = some x →
     x.committed = false →
     let back (t : State) : State :=
       let u := ((t.modChannel b fun c => { c with session := none }).giveBack 1).restartTimers b
       match (s.bridge b).entry with
       | some (.locked cause) => u.enterLocked b cause none
       | _ => u.goIdle b
     (exec (.calEnd tag (bridgeCode b) 2) s = .next (State.okReply (back s) 0xCF tag .none)) ∧
     (∀ zero span mass, x.step = none → x.zeroResult = some zero → x.spanResult = some (span, mass) →
       (span - zero < 10000 →
         exec (.calEnd tag (bridgeCode b) 1) s = .next (State.okReply
           ((back (s.modChannel b fun c => { c with
             cal := { c.cal with outcome := .bad }, period := none
             lastStable := if c.period.isSome then false else c.lastStable })).notify (.calStep b .commit .bad none))
           0xCF tag (.committed true))) ∧
       (10000 ≤ span - zero →
         exec (.calEnd tag (bridgeCode b) 1) s = .next (State.okReply
           ((s.modChannel b fun c => { c with session := some { x with idle := none, committed := true } }).requestWrite
             (.session b) (.cal
               { channel := b, replaced := (s.channel b).cal
                 new := { zeroCounts := zero, spanCounts := span, testMass := mass, valid := true, outcome := .done } }))
           0xCF tag (.committed false)))) ∧
     (x.step.isSome = true ∨ x.zeroResult = none ∨ x.spanResult = none →
       exec (.calEnd tag (bridgeCode b) 1) s = .next (s.refusal 0xCF tag .wrongState))) ∧
  (∀ (s : State) (b : BridgeNo) (x : Session), (s.channel b).session = some x →
     (∀ k left, x.step = some ⟨k, left⟩ →
       exec (.calStepTimeout b) s = .next (State.settleLink
         ((s.modChannel b fun c => { c with session := some { x with step := none } }).notify
           (.calStep b (match k with | .zero => .zero | .span _ => .span) .timedOut none)))) ∧
     (x.idle.isSome = true →
       exec (.calIdleTimeout b) s = .next (State.settleLink
         ((let u := ((s.modChannel b fun c => { c with session := none }).giveBack 1).restartTimers b
           match (s.bridge b).entry with
           | some (.locked cause) => u.enterLocked b cause none
           | _ => u.goIdle b).notify (.calStep b .whole .abandoned none))))) ∧
  (∀ (s : State) (f : InFlight) (b : BridgeNo) (x : CalBody) (y : Session), s.link.input = [] → s.loneWrite f →
     f.request = ⟨.session b, .cal x⟩ → (s.channel b).session = some y →
     (∀ p, (s.channel b).pending = some p → p.held = false) →
     fits32 (s.clock.minutes + s.shift.working.zeroInterval) →
     ∃ t, exec .writeComplete s = .next t ∧
       t.channel b = { s.channel b with
         cal := x.new, session := none, period := none
         lastStable := if (s.channel b).period.isSome then false else (s.channel b).lastStable } ∧
       (t.bridge b).currentZero = x.new.zeroCounts ∧ (t.bridge b).backlog = 0 ∧ (t.bridge b).zeroDue = false ∧
       (t.bridge b).zeroDeadline = s.clock.minutes + s.shift.working.zeroInterval ∧
       (t.bridge b).present = (s.bridge b).present ∧
       (y.wireOff = false → (t.bridge b).state = if (s.bridge b).present then .arrived else .idle) ∧
       (y.wireOff = true → (t.bridge b).state = .locked ∧ (t.bridge b).lockCause = some .wireOff) ∧
       (let told := s.notify (.calStep b .commit .done none)
        (y.wireOff = false → t.endsLink told.link) ∧
        (y.wireOff = true → t.endsLink ((told.notify (.bridgeLocked b .wireOff none)).raise .bridgeLocked).link)) ∧
       t.store = s.store.completed f ∧ (∀ d, d ≠ b → t.bridge d = s.bridge d ∧ t.channel d = s.channel d) ∧
       (t.dt = s.dt ∧ t.vehicles = s.vehicles ∧ t.feed = s.feed ∧ t.windows = s.windows ∧ t.growers = s.growers ∧
         t.shift = s.shift ∧ t.clock = s.clock ∧ t.pending = s.pending))

/-- CAL DEFAULT on an IDLE or LOCKED bridge: the calibration becomes NOMINAL at once with its last outcome kept, the
current zero 0, the CAL record is owed and asked for, and an IDLE bridge locks CAL_INVALID; in another state it is
refused WRONG_STATE (R139). WRITE_COMPLETE of that CAL record, with nothing else to write: the record owed is removed and
the slot consumed (R139, R176). -/
def Obligations.CalibrationsAreMadeNominal : Prop :=
  (∀ (s : State) (f : InFlight) (b : BridgeNo) (x : CalBody), s.loneWrite f → f.request = ⟨.channel b, .cal x⟩ →
    exec .writeComplete s = .next (State.settleLink
      (State.modChannel { s with store := s.store.completed f } b fun c => { c with owed := none }))) ∧
  ∀ (s : State) (tag : Byte) (b : BridgeNo), s.ready →
    ((s.bridge b).state = .idle ∨ (s.bridge b).state = .locked → (s.channel b).owed = none →
      (∀ p, (s.channel b).pending = some p → p.held = false) → s.store.state ≠ .failed →
      s.store.reserved + 1 ≤ s.free →
      let new : Calibration :=
        { zeroCounts := 0, spanCounts := 4000000, testMass := (s.channel b).active.capacity, valid := false
          outcome := (s.channel b).cal.outcome }
      let body : CalBody := { channel := b, new := new, replaced := (s.channel b).cal }
      let t := (((s.reserve 1).modChannel b fun c => { c with
        cal := new, owed := some (.cal body), period := none
        lastStable := if c.period.isSome then false else c.lastStable }).modBridge b
          fun x => { x with currentZero := 0 }).requestWrite (.channel b) (.cal body)
      ((s.bridge b).state = .idle →
        exec (.calDefault tag (bridgeCode b)) s =
          .next (State.okReply (t.enterLocked b .calInvalid none) 0xD0 tag .none)) ∧
      ((s.bridge b).state = .locked →
        exec (.calDefault tag (bridgeCode b)) s = .next (State.okReply t 0xD0 tag .none))) ∧
    ((s.bridge b).state ≠ .idle → (s.bridge b).state ≠ .locked →
      exec (.calDefault tag (bridgeCode b)) s = .next (s.refusal 0xD0 tag .wrongState))

/-- LOAD_CELL_CONVERSION that passes its check on a configured channel and fills the mean: the filtered count is the
mean rounded half away from zero, the reading is its mass from the current zero rounded to divisions, and the range
flags are judged from it; no other bridge or channel and no account changes (R121, R122, R125, R126). Where the reading
does not change PRESENT, it begins a period; or ends one unstable, straying more than a division, and begins the next; or
is within it; or ends it stable at its length; a reading that changes PRESENT ends the period (R123; the order is log
11; where none is in progress, log 42). A mean still filling forms nothing, and an all-zero channel no reading (R120, R121). A failing conversion below the
run that raises the flag forms nothing, and counts for the runs and for the period in progress; the fifth in a row does
what WIRE_OFF_RAISE does (R121, R123, R126). Under wire-off the runs alone are counted, and the hundredth passing one in a
row does what WIRE_OFF_CLEAR does (R126; that it stays out of the mean is log 12). -/
def Obligations.ConversionsFormReadings : Prop :=
  (∀ (s : State) (b : BridgeNo) (count : Int), s.link.input = [] → (s.channel b).wireOff = false →
    (∀ older, -8388608 < count → count < 8388607 → (s.channel b).active ≠ ⟨0, 0, 0, 0, 0, 0⟩ →
      (s.channel b).cal.spanCounts ≠ (s.channel b).cal.zeroCounts →
      older = (s.channel b).mean.take (2 ^ (s.channel b).active.filter - 1) →
      older.length + 1 = 2 ^ (s.channel b).active.filter →
      let c := s.channel b
      let filtered := roundAway (count + older.sum) (2 ^ c.active.filter : Nat)
      let reading := roundAway ((filtered - (s.bridge b).currentZero) * c.cal.testMass)
        ((c.cal.spanCounts - c.cal.zeroCounts) * c.active.division) * c.active.division
      ∃ t, exec (.loadCellConversion b count true) s = .next t ∧
        (t.channel b).mean = count :: older ∧ (t.channel b).filtered = filtered ∧
        (t.channel b).rounded = some reading ∧
        (t.channel b).overrange = decide (((c.active.capacity + 9 * c.active.division : Nat) : Int) < reading) ∧
        (t.channel b).underrange = decide (reading < -((20 * c.active.division : Nat) : Int)) ∧
        (t.channel b).passRun = c.passRun + 1 ∧ (t.channel b).failRun = 0 ∧ (t.channel b).active = c.active ∧
        (t.channel b).cal = c.cal ∧ (∀ d, d ≠ b → t.bridge d = s.bridge d ∧ t.channel d = s.channel d) ∧
        ((t.bridge b).present = (s.bridge b).present →
          (c.period = none → (t.channel b).period = some ⟨reading, 0⟩ ∧ (t.channel b).lastStable = c.lastStable) ∧
          (∀ p, c.period = some p →
            (c.active.division < (reading - p.first).natAbs →
              (t.channel b).period = some ⟨reading, 0⟩ ∧ (t.channel b).lastStable = false) ∧
            ((reading - p.first).natAbs ≤ c.active.division → p.conversions + 1 < 10 * c.active.stability →
              (t.channel b).period = some ⟨p.first, p.conversions + 1⟩ ∧ (t.channel b).lastStable = c.lastStable) ∧
            ((reading - p.first).natAbs ≤ c.active.division → 10 * c.active.stability ≤ p.conversions + 1 →
              (t.channel b).period = none ∧ (t.channel b).lastStable = true))) ∧
        ((t.bridge b).present ≠ (s.bridge b).present →
          (t.channel b).period = none ∧ (c.period ≠ none → (t.channel b).lastStable = false) ∧
            (c.period = none → (t.channel b).lastStable = c.lastStable)) ∧
        (t.dt.records = s.dt.records ∧ t.feed = s.feed ∧ t.windows = s.windows ∧ t.growers = s.growers ∧
          t.shift = s.shift ∧ t.clock = s.clock ∧ t.pending = s.pending)) ∧
    ((s.channel b).failRun + 1 < 5 → ∀ agree, agree = false ∨ count = -8388608 ∨ count = 8388607 →
      exec (.loadCellConversion b count agree) s = .next (State.settleLink (s.modChannel b fun c => { c with
        failRun := c.failRun + 1, passRun := 0
        period := c.period.map fun p => { p with conversions := p.conversions + 1 } })))) ∧
  (∀ (s : State) (b : BridgeNo) (count : Int) (agree : Bool),
    let c := s.channel b
    let fails : Prop := agree = false ∨ count = -8388608 ∨ count = 8388607
    let passed (c : Channel) : Channel := { c with passRun := c.passRun + 1, failRun := 0 }
    let failed (c : Channel) : Channel := { c with
      failRun := c.failRun + 1, passRun := 0
      period := c.period.map fun p => { p with conversions := p.conversions + 1 } }
    let older := c.mean.take (2 ^ c.active.filter - 1)
    (¬ fails → c.wireOff = false → older.length + 1 < 2 ^ c.active.filter →
      exec (.loadCellConversion b count agree) s =
        .next (State.settleLink (s.modChannel b fun c => { passed c with mean := count :: older }))) ∧
    (¬ fails → c.wireOff = false → c.active = ⟨0, 0, 0, 0, 0, 0⟩ →
      exec (.loadCellConversion b count agree) s =
        .next (State.settleLink (s.modChannel b fun c => { passed c with mean := [count], filtered := count }))) ∧
    (fails → c.wireOff = false → 5 ≤ c.failRun + 1 →
      exec (.loadCellConversion b count agree) s = exec (.wireOffRaise b) (s.modChannel b failed)) ∧
    (fails → c.wireOff = true →
      exec (.loadCellConversion b count agree) s = .next (State.settleLink (s.modChannel b failed))) ∧
    (¬ fails → c.wireOff = true → c.passRun + 1 < 100 →
      exec (.loadCellConversion b count agree) s = .next (State.settleLink (s.modChannel b passed))) ∧
    (¬ fails → c.wireOff = true → 100 ≤ c.passRun + 1 →
      exec (.loadCellConversion b count agree) s = exec (.wireOffClear b) (s.modChannel b passed)))

/-- STABLE_ENDING of a period in progress: the period ends stable, and the bridge acts on it. A BOUND bridge captures
when PRESENT is set and the reading is at or above 20 divisions and not overrange, and a gross binding's ticket
takes the next delivery number and is asked for (R7, R8, R101, R123, R124; that the row acts on a period of any
length is log 8). Where the binding wishes the stored tare, the ticket carries it with trash and net, and the vehicle has
one use fewer, when the tare is there with a use left and below the gross; else the ticket says it is unavailable (R8). A
tare binding's ticket is fixed from its delivery, ACCEPTED with trash and net below the gross and else REJECTED, and asked
for (R11, R12). The session of a CALIBRATING bridge takes the count as its step's result, with CAL STEP (R135).
STABLE_ENDING on an IDLE bridge with reason to check its zero: within the zero band the filtered
count becomes the current zero, the backlog 0, ZERO_DUE and the zero request clear and the deadline re-armed;
outside it the bridge locks ZERO_BAND. Without a reason nothing more happens (R106, R123, R124). -/
def Obligations.StableReadingsWeighAndZero : Prop :=
  (∀ (s : State) (b : BridgeNo) (p : Period) (r count : Int) (x : Binding),
     (s.channel b).period = some p → (s.channel b).rounded = some r → (s.channel b).filtered = count →
     (s.bridge b).state = .bound → (s.bridge b).binding = some x → (s.bridge b).present = true →
     ((20 * (s.channel b).active.division : Nat) : Int) ≤ r → (s.channel b).overrange = false →
     let held := (s.modChannel b fun c => { c with period := none, lastStable := true }).modBridge b
       fun z => { z with state := .capture, bindTimer := none }
     let cut (cane insp : Nat) : Nat := cane * s.shift.working.trash.getD insp 0 / 1000
     (∀ cls g insp (y : Grower), x.pass = .gross cls g insp true → s.grower? g = some y →
       let numbered : State := { held with dt := { held.dt with counter := held.dt.counter + 1 } }
       let ticket (status : StoredStatus) : RecordBody :=
         .gross { delivery := s.dt.counter + 1, grower := g, vehicle := x.vehicle, cls := cls, inspection := insp
                  bridge := b, fibre := y.fibre, gross := r.toNat, time := s.clock.reading, stored := status }
       (∀ v k, s.vehicle? x.vehicle = some v → v.stored = some k → 0 < v.uses → k.kg < r.toNat →
         let cane := r.toNat - k.kg
         exec (.stableEnding b) s = .next (State.settleLink (State.requestWrite
           { numbered with vehicles := Table.modify s.vehicles x.vehicle fun v => { v with uses := v.uses - 1 } }
           (.bridge b) (ticket (.applied k.kg (cut cane insp) (cane - cut cane insp)))))) ∧
       ((∀ v k, s.vehicle? x.vehicle = some v → v.stored = some k → v.uses = 0 ∨ r.toNat ≤ k.kg) →
         exec (.stableEnding b) s =
           .next (State.settleLink (numbered.requestWrite (.bridge b) (ticket .unavailable))))) ∧
     (∀ n d, x.pass = .tare n → s.delivery? n = some d →
       let ticket (status : TareStatus) : RecordBody :=
         .tare { delivery := n, vehicle := d.vehicle, bridge := some b, gross := d.gross.kg, tare := r.toNat
                 status := status, time := s.clock.reading }
       let cane := d.gross.kg - r.toNat
       (r.toNat < d.gross.kg →
         exec (.stableEnding b) s = .next (State.settleLink (held.requestWrite (.bridge b)
           (ticket (.accepted (cut cane d.inspection) (cane - cut cane d.inspection)))))) ∧
       (d.gross.kg ≤ r.toNat →
         exec (.stableEnding b) s = .next (State.settleLink (held.requestWrite (.bridge b) (ticket .rejected)))))) ∧
  (∀ (s : State) (b : BridgeNo) (p : Period) (r count : Int) (x : Session),
     (s.channel b).period = some p → (s.channel b).rounded = some r → (s.channel b).filtered = count →
     (s.bridge b).state = .calibrating → (s.channel b).session = some x →
     let after (y : Session) : State :=
       s.modChannel b fun c => { c with period := none, lastStable := true, session := some y }
     (∀ left, x.step = some ⟨.zero, left⟩ →
       exec (.stableEnding b) s = .next (State.settleLink
         ((after { x with step := none, zeroResult := some count }).notify (.calStep b .zero .done (some count))))) ∧
     (∀ mass left, x.step = some ⟨.span mass, left⟩ →
       exec (.stableEnding b) s = .next (State.settleLink
         ((after { x with step := none, spanResult := some (count, mass) }).notify (.calStep b .span .done (some count))))) ∧
     (x.step = none → exec (.stableEnding b) s = .next (after x).settleLink)) ∧
  (∀ (s : State) (b : BridgeNo) (p : Period) (r count : Int) (x : Binding) (cls g insp : Nat) (y : Grower),
     (s.channel b).period = some p → (s.channel b).rounded = some r → (s.channel b).filtered = count →
     (s.bridge b).state = .bound → (s.bridge b).binding = some x → x.pass = .gross cls g insp false →
     s.grower? g = some y →
     let stable := s.modChannel b fun c => { c with period := none, lastStable := true }
     ((s.bridge b).present = true → ((20 * (s.channel b).active.division : Nat) : Int) ≤ r →
       (s.channel b).overrange = false →
       exec (.stableEnding b) s = .next (State.settleLink
         (let held := stable.modBridge b fun z => { z with state := .capture, bindTimer := none }
          State.requestWrite { held with dt := { held.dt with counter := held.dt.counter + 1 } } (.bridge b)
           (.gross { delivery := s.dt.counter + 1, grower := g, vehicle := x.vehicle, cls := cls, inspection := insp
                     bridge := b, fibre := y.fibre, gross := r.toNat, time := s.clock.reading, stored := .notAsked })))) ∧
     ((s.bridge b).present = false ∨ r < ((20 * (s.channel b).active.division : Nat) : Int) ∨
       (s.channel b).overrange = true →
       exec (.stableEnding b) s = .next stable.settleLink)) ∧
  (∀ (s : State) (b : BridgeNo) (p : Period) (r count : Int),
     (s.channel b).period = some p → (s.channel b).rounded = some r → (s.channel b).filtered = count →
     (s.bridge b).state = .idle → (s.bridge b).present = false →
     fits32 (s.clock.minutes + s.shift.working.zeroInterval) →
     let stable := s.modChannel b fun c => { c with period := none, lastStable := true }
     let reason := 0 < (s.bridge b).backlog ∨ (s.bridge b).zeroDue = true ∨ (s.bridge b).zeroRequest = true
     let band := (s.channel b).active.zeroBand * (s.channel b).active.division
     (reason → r.natAbs ≤ band → s.link.input = [] →
       ∃ t, exec (.stableEnding b) s = .next t ∧
         t.bridge b = { s.bridge b with
           currentZero := count, backlog := 0, zeroDue := false, zeroRequest := false
           zeroDeadline := s.clock.minutes + s.shift.working.zeroInterval } ∧
         (t.lines.entryLamp.get b).on = true ∧ t.channel b = stable.channel b ∧
         (∀ c, c ≠ b → t.bridge c = s.bridge c ∧ t.channel c = s.channel c) ∧
         t.dt = s.dt ∧ t.vehicles = s.vehicles ∧ t.feed = s.feed ∧ t.windows = s.windows ∧ t.growers = s.growers ∧
         t.store = s.store ∧ t.shift = s.shift ∧ t.clock = s.clock ∧ t.pending = s.pending) ∧
     (reason → band < r.natAbs →
       exec (.stableEnding b) s = .next (State.settleLink (stable.enterLocked b .zeroBand none))) ∧
     (¬ reason → exec (.stableEnding b) s = .next stable.settleLink))

/-- WIRE_OFF_RAISE while the flag is clear: the flag stands, the mean is empty, there is no reading and no range flag,
and an IDLE, ARRIVED, CLEARING or BOUND bridge is LOCKED with WIRE_OFF, its binding gone; while the flag stands it
does nothing (R109, R125, R126). A CALIBRATING bridge is LOCKED so too, its session ended, its slot given back and its
CAL request withdrawn; but where the session's CAL record is being written, the session keeps the wire-off for the
completion (R112, R138; log 14). The entry to LOCKED makes BRIDGE LOCKED with the binding it discarded, and before it
a session's end CAL STEP with ABANDONED (R109, R112). WIRE_OFF_CLEAR while the flag stands clears it and the mean
begins to fill (R126). That the two rows act whatever the runs of checks stand at is log 8; that the filtered
count stands as it was is log 37. -/
def Obligations.WireOffIsRaisedAndCleared : Prop :=
  ∀ (s : State) (b : BridgeNo), s.link.input = [] →
    ((s.channel b).wireOff = false →
      ∃ t, exec (.wireOffRaise b) s = .next t ∧
        (t.channel b).wireOff = true ∧ (t.channel b).mean = [] ∧ (t.channel b).filtered = (s.channel b).filtered ∧
        (t.channel b).rounded = none ∧ (t.channel b).period = none ∧ (t.channel b).overrange = false ∧
        (t.channel b).underrange = false ∧
        ((s.bridge b).state = .idle ∨ (s.bridge b).state = .arrived ∨ (s.bridge b).state = .clearing ∨
          (s.bridge b).state = .bound →
          (t.bridge b).state = .locked ∧ (t.bridge b).lockCause = some .wireOff) ∧
        ((s.bridge b).state = .bound → (t.bridge b).binding = none) ∧
        (let locked (u : State) (gone : Option Binding) : Prop :=
          t.endsLink ((u.notify (.bridgeLocked b .wireOff gone)).raise .bridgeLocked).link
         ((s.bridge b).state = .idle ∨ (s.bridge b).state = .arrived ∨ (s.bridge b).state = .clearing → locked s none) ∧
         ((s.bridge b).state = .bound → locked (s.discardBinding b) (s.bridge b).binding) ∧
         ((s.bridge b).state = .capture ∨ (s.bridge b).state = .locked → t.endsLink s.link) ∧
         ((s.bridge b).state = .calibrating →
           (∀ f, s.store.inFlight = some f → f.request.requester ≠ .session b) →
           locked ((s.giveBack 1).notify (.calStep b .whole .abandoned none)) none) ∧
         ((s.bridge b).state = .calibrating → (∃ f, s.store.inFlight = some f ∧ f.request.requester = .session b) →
           t.endsLink s.link)) ∧
        (let writing : Prop := ∃ f, s.store.inFlight = some f ∧ f.request.requester = .session b
         ((s.bridge b).state = .calibrating → ¬ writing →
           (t.bridge b).state = .locked ∧ (t.bridge b).lockCause = some .wireOff ∧ (t.channel b).session = none ∧
             t.store.reserved = s.store.reserved - 1 ∧
             ∀ r ∈ t.store.shared ++ t.store.waiting, r.requester ≠ .session b) ∧
         ((s.bridge b).state = .calibrating → writing →
           (t.bridge b).state = .calibrating ∧ t.store = s.store ∧
             (t.channel b).session = (s.channel b).session.map fun x => { x with wireOff := true })) ∧
        (t.channel b).active = (s.channel b).active ∧ (t.channel b).cal = (s.channel b).cal ∧
        (∀ d, d ≠ b → t.bridge d = s.bridge d ∧ t.channel d = s.channel d) ∧
        (t.dt.records = s.dt.records ∧ t.vehicles = s.vehicles ∧ t.feed = s.feed ∧ t.windows = s.windows ∧
          t.shift = s.shift ∧ t.clock = s.clock ∧ t.pending = s.pending)) ∧
    ((s.channel b).wireOff = true → exec (.wireOffRaise b) s = .next s.settleLink) ∧
    ((s.channel b).wireOff = true →
      ∃ t, exec (.wireOffClear b) s = .next t ∧ (t.channel b).wireOff = false ∧ (t.channel b).mean = [] ∧
        (t.channel b).failRun = 0 ∧ (t.bridge b).binding = (s.bridge b).binding ∧
        (∀ d, d ≠ b → t.bridge d = s.bridge d ∧ t.channel d = s.channel d) ∧
        (t.dt = s.dt ∧ t.vehicles = s.vehicles ∧ t.feed = s.feed ∧ t.windows = s.windows ∧ t.growers = s.growers ∧
          t.shift = s.shift ∧ t.store = s.store ∧ t.clock = s.clock ∧ t.pending = s.pending)) ∧
    ((s.channel b).wireOff = false → exec (.wireOffClear b) s = .next s.settleLink)

/-! ## The record store -/

/-- A reservation made adds its slots to the reserved total, and one given back takes them off; the store is then LOW
while free less reserved is below 64 and NORMAL otherwise, with STORE ALARM at a change and STORE_LOW raised at an
entry to LOW; a FAILED store is not judged (R171, R172). EXPORT MARK, its tests in order: below the mark or above the
last sequence BAD_FIELD. Else the mark becomes n, the store judges its state, no record is erased, and the reply
carries the mark, free, reserved and the store's state (R170, R172, R179). -/
def Obligations.ReservationsAndExportMarksJudgeTheStore : Prop :=
  (∀ (s : State) (k : Nat),
     let judged (reserved : Nat) (u : State) : Prop :=
       let t : State := { s with store := { s.store with reserved := reserved } }
       let low := s.free < reserved + 64
       (s.store.state = .failed → u = t) ∧
       (low → s.store.state = .low → u = t) ∧
       (¬ low → s.store.state = .normal → u = t) ∧
       (low → s.store.state = .normal →
         u = (State.notify { t with store := { t.store with state := .low } }
           (.storeAlarm .low s.free reserved)).raise .storeLow) ∧
       (¬ low → s.store.state = .low →
         u = State.notify { t with store := { t.store with state := .normal } } (.storeAlarm .normal s.free reserved))
     judged (s.store.reserved + k) (s.reserve k) ∧ judged (s.store.reserved - k) (s.giveBack k)) ∧
  (∀ (s : State) (tag : Byte) (n : Nat), s.ready →
     (n < s.store.exportMark ∨ s.store.lastSequence < n →
       exec (.exportMark tag n) s = .next (s.refusal 0xD9 tag .badField)) ∧
     (s.store.exportMark ≤ n → n ≤ s.store.lastSequence →
       let t : State := { s with store := { s.store with exportMark := n } }
       let free := 4064 - (s.store.lastSequence - n)
       let low := free < s.store.reserved + 64
       (s.store.state = .failed ∨ (low ∧ s.store.state = .low) ∨ (¬ low ∧ s.store.state = .normal) →
         exec (.exportMark tag n) s =
           .next (t.okReply 0xD9 tag (.exported n free s.store.reserved s.store.state))) ∧
       (¬ low → s.store.state = .low →
         exec (.exportMark tag n) s = .next (State.okReply
           (State.notify { t with store := { t.store with state := .normal } } (.storeAlarm .normal free s.store.reserved))
           0xD9 tag (.exported n free s.store.reserved .normal)))))

/-- WRITE_COMPLETE of a gross ticket, with nothing else to write: the record is held and exposed, its reservation
consumed, the delivery created OPEN_GROSS, GROSS TICKET made with the record's sequence number, and the bridge leaves
CAPTURE with its binding gone, LOCKED with a pending cause, with BRIDGE LOCKED made, else to CLEARING, and on to IDLE
when PRESENT is clear (R9, R102, R169, R176). -/
def Obligations.GrossTicketsCreateDeliveries : Prop :=
  ∀ (s : State) (f : InFlight) (b : BridgeNo) (k : GrossTicket), s.link.input = [] → s.store.state ≠ .failed →
    s.store.inFlight = some f → f.request = ⟨.bridge b, .gross k⟩ →
    s.store.tickets = ⟨none, none, none, none⟩ → s.store.shared = [] → s.store.waiting = [] →
    (∀ p, (s.channel b).pending = some p → p.held = false) →
    ∃ t, exec .writeComplete s = .next t ∧
      t.store.lastSequence = f.record.sequence ∧ t.store.lastSlot = f.slot ∧
      t.store.reserved = s.store.reserved - 1 ∧ t.store.slots = Table.put s.store.slots f.slot f.record ∧
      t.store.inFlight = none ∧ t.store.state = s.store.state ∧
      t.dt = { s.dt with
        reserved := s.dt.reserved - 1
        records := s.dt.records.put k.delivery
          { grower := k.grower, vehicle := k.vehicle, cls := k.cls, inspection := k.inspection, fibre := k.fibre
            gross := { kg := k.gross, bridge := k.bridge, sequence := f.record.sequence, time := k.time }
            netting := (match k.stored with
              | .applied tare trash net => some
                  { tare := tare, source := .stored, sequence := f.record.sequence, trash := trash, net := net }
              | _ => none)
            pendingNet := none, queueMass := 0, crushed := 0, parts := [], state := .openGross, estimated := false
            overcrush := none, folded := false, nominalPart := false, tareRejected := false } } ∧
      (t.bridge b).binding = none ∧ (t.bridge b).bindTimer = none ∧
      ((s.bridge b).pendingCause = none → (t.bridge b).state =
        (if (s.bridge b).present then .clearing else .idle)) ∧
      (∀ cause, (s.bridge b).pendingCause = some cause →
        (t.bridge b).state = .locked ∧ (t.bridge b).lockCause = some cause) ∧
      (let told := s.notify (.grossTicket f.record.sequence k)
       ((s.bridge b).pendingCause = none → t.endsLink told.link) ∧
       (∀ cause, (s.bridge b).pendingCause = some cause →
         t.endsLink ((told.notify (.bridgeLocked b cause none)).raise .bridgeLocked).link)) ∧
      (t.vehicles = s.vehicles ∧ t.feed = s.feed ∧ t.windows = s.windows ∧ t.growers = s.growers ∧ t.shift = s.shift ∧
        t.channels = s.channels ∧ t.clock = s.clock ∧ t.pending = s.pending)

/-- WRITE_COMPLETE of a weighed tare ticket, with nothing else to write. ACCEPTED: the delivery's netting takes the
ticket's figures; a QUEUED one takes the net as queue mass and keeps its place, or leaves the Feed Queue as CRUSHED
with OVERCRUSH when its crushed mass is at or above the net; a CRUSHED one has OVERCRUSH by the same test; its parts
and its crushed mass stay; a registered vehicle takes the tare and the re-tare interval (R11, R15, R39; that the
stored tare has the capture's time is log 36). REJECTED: the delivery has TARE_REJECTED and no vehicle changes (R12).
WRITE_COMPLETE of a stored netting's TARE record nets its delivery likewise, with source STORED; the figures are
pending no more, and no vehicle changes (R14, R15, R39). Each makes TARE TICKET with the record's sequence number
(R11, R12, R14), and a bridge that leaves CAPTURE to LOCKED then BRIDGE LOCKED. -/
def Obligations.NettingsTakeEffectByState : Prop :=
  (∀ (s : State) (f : InFlight) (m : Nat) (k : TareTicket) (d : Delivery) (trash net : Nat), s.link.input = [] →
    s.loneWrite f → f.request = ⟨.delivery m, .tare k⟩ → k.status = .accepted trash net →
    s.delivery? k.delivery = some d →
    (∃ p ∈ d.parts, ∀ w, s.window? p.window = some w → w.settled = false) ∨ d.state = .openGross →
    let x : Netting := { tare := k.tare, source := .stored, sequence := f.record.sequence, trash := trash, net := net }
    let y : Delivery := { d with netting := some x, pendingNet := none, tareRejected := false }
    ∃ t, exec .writeComplete s = .next t ∧ t.store = s.store.completed f ∧
      t.endsLink (s.notify (.tareTicket f.record.sequence k)).link ∧
      (d.state = .openGross → t.delivery? k.delivery = some y ∧ t.feed = s.feed) ∧
      (d.state = .queued → d.crushed < net → t.delivery? k.delivery = some { y with queueMass := net } ∧ t.feed = s.feed) ∧
      (d.state = .queued → net ≤ d.crushed →
        t.delivery? k.delivery = some { y with queueMass := net, overcrush := some (d.crushed - net), state := .crushed } ∧
        t.feed = s.feed.filter fun m => m ≠ k.delivery) ∧
      (d.state = .crushed → d.crushed < net → t.delivery? k.delivery = some y ∧ t.feed = s.feed) ∧
      (d.state = .crushed → net ≤ d.crushed →
        t.delivery? k.delivery = some { y with overcrush := some (d.crushed - net) } ∧ t.feed = s.feed) ∧
      (∀ m, m ≠ k.delivery → t.delivery? m = s.delivery? m) ∧
      (t.vehicles = s.vehicles ∧ t.windows = s.windows ∧ t.growers = s.growers ∧ t.shift = s.shift ∧
        t.bridges = s.bridges ∧ t.channels = s.channels ∧ t.clock = s.clock ∧ t.pending = s.pending)) ∧
  ∀ (s : State) (f : InFlight) (b : BridgeNo) (k : TareTicket) (d : Delivery), s.link.input = [] →
    s.store.state ≠ .failed → s.store.inFlight = some f → f.request = ⟨.bridge b, .tare k⟩ →
    s.store.tickets = ⟨none, none, none, none⟩ → s.store.shared = [] → s.store.waiting = [] →
    (∀ p, (s.channel b).pending = some p → p.held = false) → s.delivery? k.delivery = some d →
    (∃ p ∈ d.parts, ∀ w, s.window? p.window = some w → w.settled = false) ∨ d.state = .openGross →
    ∃ t, exec .writeComplete s = .next t ∧ t.store.lastSequence = f.record.sequence ∧
      t.store.reserved = s.store.reserved - 1 ∧ (t.bridge b).binding = none ∧
      (let told := s.notify (.tareTicket f.record.sequence k)
       ((s.bridge b).pendingCause = none → t.endsLink told.link) ∧
       (∀ cause, (s.bridge b).pendingCause = some cause →
         t.endsLink ((told.notify (.bridgeLocked b cause none)).raise .bridgeLocked).link)) ∧
      (∀ m, m ≠ k.delivery → t.delivery? m = s.delivery? m) ∧
      (∀ trash net, k.status = .accepted trash net →
        let x : Netting := { tare := k.tare, source := .weighed, sequence := f.record.sequence, trash := trash, net := net }
        let y : Delivery := { d with netting := some x, tareRejected := false }
        (d.state = .openGross → t.delivery? k.delivery = some y ∧ t.feed = s.feed) ∧
        (d.state = .queued → d.crushed < net → t.delivery? k.delivery = some { y with queueMass := net } ∧ t.feed = s.feed) ∧
        (d.state = .queued → net ≤ d.crushed →
          t.delivery? k.delivery =
            some { y with queueMass := net, overcrush := some (d.crushed - net), state := .crushed } ∧
          t.feed = s.feed.filter fun m => m ≠ k.delivery) ∧
        (d.state = .crushed → d.crushed < net → t.delivery? k.delivery = some y ∧ t.feed = s.feed) ∧
        (d.state = .crushed → net ≤ d.crushed →
          t.delivery? k.delivery = some { y with overcrush := some (d.crushed - net) } ∧ t.feed = s.feed) ∧
        (∀ v, s.vehicle? k.vehicle = some v → t.vehicle? k.vehicle = some { v with
          stored := some { kg := k.tare, time := k.time, sequence := f.record.sequence }, uses := s.shift.working.retare }) ∧
        (s.vehicle? k.vehicle = none → t.vehicles = s.vehicles)) ∧
      (k.status = .rejected →
        t.delivery? k.delivery = some { d with tareRejected := true } ∧ t.feed = s.feed ∧ t.vehicles = s.vehicles) ∧
      (t.windows = s.windows ∧ t.growers = s.growers ∧ t.shift = s.shift ∧ t.channels = s.channels ∧ t.clock = s.clock ∧
        t.pending = s.pending)

/-- WRITE_COMPLETE of a SETTLE record, with nothing else to write: the grower's account is posted, each total
saturating alone, the shift's settled figures rise, the delivery is freed and its number found no more, and the window
of its one part has one reference fewer, or is released when that was its last and it is final and written; no other
window below the OPEN one changes (R64, R65, R81, R89, R161). SETTLED is made with the record's sequence number, and
no other notice while the OPEN window is not EXTENDED (R65, R81). -/
def Obligations.SettlementsPostTheGrower : Prop :=
  ∀ (s : State) (f : InFlight) (n : Nat) (x : SettleBody) (y : Grower), s.link.input = [] →
    s.store.state ≠ .failed → s.store.inFlight = some f → f.request = ⟨.delivery n, .settle x⟩ → x.delivery = n →
    s.store.tickets = ⟨none, none, none, none⟩ → s.store.shared = [] → s.store.waiting = [] →
    s.grower? x.record.grower = some y →
    let sum (a b : Nat) : Nat := if a + b ≤ 4294967295 then a + b else 4294967295
    ∃ t, exec .writeComplete s = .next t ∧
      t.grower? x.record.grower = some { y with
        settled := y.settled + 1, netTotal := sum y.netTotal x.netting.net
        payableTotal := sum y.payableTotal x.figures.payable, juiceTotal := sum y.juiceTotal x.figures.juice
        openCount := y.openCount - 1, lastSettled := some f.record.sequence
        saturated := y.saturated || decide (4294967295 < y.netTotal + x.netting.net) ||
          decide (4294967295 < y.payableTotal + x.figures.payable) ||
          decide (4294967295 < y.juiceTotal + x.figures.juice) } ∧
      (∀ m, m ≠ x.record.grower → t.grower? m = s.grower? m) ∧
      (∀ m, t.delivery? m = if m = n then none else s.delivery? m) ∧
      t.shift.acc.net = s.shift.acc.net.plus x.netting.net ∧
      t.shift.acc.payable = s.shift.acc.payable.plus x.figures.payable ∧
      t.shift.acc.deliveries = s.shift.acc.deliveries.plus 1 ∧
      t.store.lastSequence = f.record.sequence ∧
      ((∀ w, s.window? s.windows.counter = some w → w.extended = false) →
        t.endsLink (s.notify (.settled f.record.sequence x)).link) ∧
      (∀ m, (∀ p ∈ x.record.parts, p.window ≠ m) → m < s.windows.counter → t.window? m = s.window? m) ∧
      (∀ p w, x.record.parts = [p] → p.window < s.windows.counter → s.window? p.window = some w →
        (w.settled = true ∧ w.refs ≤ 1 → t.window? p.window = none) ∧
        (w.settled = false ∨ 1 < w.refs → t.window? p.window = some { w with refs := w.refs - 1 })) ∧
      (t.vehicles = s.vehicles ∧ t.feed = s.feed ∧ t.bridges = s.bridges ∧ t.channels = s.channels ∧
        t.clock = s.clock ∧ t.pending = s.pending)

/-- WRITE_COMPLETE of a WINDOW record: every delivery that names the window, is netted and CRUSHED, and has every
other window of its parts final and written enters SETTLING, and no other delivery changes; the window has
SUMMARY_WRITTEN, and is released at once when no delivery refers to it; no other window below the OPEN one changes
(R21, R63, R65). WINDOW FINAL is made with the record's sequence number, and no other notice while the OPEN window is
not EXTENDED (R63, R65). -/
def Obligations.WindowRecordsSettleTheirDeliveries : Prop :=
  ∀ (s : State) (f : InFlight) (n : Nat) (w old : Window), s.canonical → s.oneOpenWindow → s.link.input = [] →
    s.store.state ≠ .failed → s.store.inFlight = some f → f.request = ⟨.window n, .window n old⟩ →
    s.window? n = some w → w.state = .resulted ∨ w.state = .voided →
    let done (p : Part) : Prop := ∃ v, s.window? p.window = some v ∧ (v.state = .resulted ∨ v.state = .voided) ∧
      (p.window = n ∨ v.summaryWritten = true)
    let ready (d : Delivery) : Prop := d.netting.isSome = true ∧ d.state = .crushed ∧ (∃ p ∈ d.parts, p.window = n) ∧
      ∀ p ∈ d.parts, done p
    ∃ t, exec .writeComplete s = .next t ∧ t.store.lastSequence = f.record.sequence ∧
      ((∀ v, s.window? s.windows.counter = some v → v.extended = false) →
        t.endsLink (s.notify (.windowFinal n f.record.sequence { w with summaryWritten := true })).link) ∧
      (∀ m d, s.delivery? m = some d →
        (ready d → t.delivery? m = some { d with state := .settling }) ∧ (¬ ready d → t.delivery? m = some d)) ∧
      (∀ m, s.delivery? m = none → t.delivery? m = none) ∧
      (w.refs = 0 → t.window? n = none) ∧
      (w.refs ≠ 0 → t.window? n = some { w with summaryWritten := true }) ∧
      (∀ m, m ≠ n → m < s.windows.counter → t.window? m = s.window? m) ∧
      (t.vehicles = s.vehicles ∧ t.feed = s.feed ∧ t.growers = s.growers ∧ t.bridges = s.bridges ∧
        t.channels = s.channels ∧ t.clock = s.clock ∧ t.pending = s.pending)

/-- The settlement figures (R74 to R79): Brix and pol weighted by the parts' kilograms to the nearest, halves up, or the
nominal part's own when the parts weigh nothing; polc and brixc by the cane factor, 960 less the fibre; four tenths
of their difference deducted, never below 0, LOW_QUALITY telling of the clamp; payable sugar floored; juice the
parts' sum. -/
def Obligations.SettlementFiguresAreRoundedAsStated : Prop :=
  ∀ (parts : List SettlePart) (fibre net : Nat), fibre ≤ 250 →
    let nearest (q a b : Nat) : Prop := 2 * b * q ≤ 2 * a + b ∧ 2 * a + b < 2 * b * (q + 1)
    let f := settleFigures parts fibre net
    f.mass = (parts.map (·.kg)).sum ∧ f.factor + fibre = 960 ∧
    (0 < f.mass →
      nearest f.brix (parts.map fun p => p.kg * p.brix).sum f.mass ∧
      nearest f.pol (parts.map fun p => p.kg * p.pol).sum f.mass) ∧
    (∀ p, f.mass = 0 → parts = [p] → f.brix = p.brix ∧ f.pol = p.pol) ∧
    nearest f.polc (f.pol * f.factor) 1000 ∧ nearest f.brixc (f.brix * f.factor) 1000 ∧
    (∃ deduction, nearest deduction ((f.brixc - f.polc) * 4) 10 ∧
      (f.lowQuality = false → f.rsf + deduction = f.polc) ∧
      (f.lowQuality = true → f.rsf = 0 ∧ f.polc < deduction)) ∧
    10000 * f.payable ≤ net * f.rsf ∧ net * f.rsf < 10000 * (f.payable + 1) ∧
    f.juice = (parts.map (·.juice)).sum

/-- A request takes its place: a ticket its bridge's, another a shared place, or the waiting line's tail where all
eight are taken (R173); with the port idle and nothing waiting its write starts at once (R174). The choice of the next
write at an idle port (R174): of the bridges' tickets the first in rotation after the bridge last started; else the
oldest class 2 request in a place; else the oldest in a place; with none, none, and a FAILED or writing port starts
nothing. A shared place freed is taken by the waiting line's oldest (R173). The write takes the next good slot, the
next sequence number, the mill clock's reading and its check, and the record its slot held is held no more (R175). -/
def Obligations.WritesStartByClassAndRotation : Prop :=
  (∀ (s : State) (body : RecordBody),
    (∀ b, s.requestWrite (.bridge b) body = State.startNext { s with store := { s.store with
      tickets := s.store.tickets.set b (some ⟨.bridge b, body⟩) } }) ∧
    (∀ q, requestClass q ≠ 1 →
      (s.store.shared.length < 8 → s.requestWrite q body = State.startNext { s with store := { s.store with
        shared := s.store.shared ++ [⟨q, body⟩] } }) ∧
      (8 ≤ s.store.shared.length → s.requestWrite q body = State.startNext { s with store := { s.store with
        waiting := s.store.waiting ++ [⟨q, body⟩] } })) ∧
    (s.store.state ≠ .failed → s.store.inFlight = none → s.store.tickets = ⟨none, none, none, none⟩ →
      s.store.shared = [] → s.store.waiting = [] →
      (∀ b, s.requestWrite (.bridge b) body =
        State.beginWrite { s with store := { s.store with lastTicket := some b } } ⟨.bridge b, body⟩) ∧
      (∀ q, requestClass q ≠ 1 → s.requestWrite q body = s.beginWrite ⟨q, body⟩))) ∧
  (∀ s : State, s.store.state = .failed ∨ s.store.inFlight.isSome = true → s.startNext = s) ∧
  (∀ s : State, s.store.state ≠ .failed → s.store.inFlight = none →
    let last : Nat := (s.store.lastTicket.map bridgeCode).getD 0
    let place (b : BridgeNo) : Nat := (bridgeCode b + 3 - last) % 4
    let freed (places : List WriteRequest) : Store :=
      match s.store.waiting with
      | [] => { s.store with shared := places }
      | q :: line => { s.store with shared := places ++ [q], waiting := line }
    (∀ b r, s.store.tickets.get b = some r → (∀ c, place c < place b → s.store.tickets.get c = none) →
      s.startNext =
        State.beginWrite { s with store := { s.store with tickets := s.store.tickets.set b none, lastTicket := some b } } r) ∧
    ((∀ c, s.store.tickets.get c = none) →
      (∀ older r newer, s.store.shared = older ++ r :: newer → older.length + newer.length < 8 →
        requestClass r.requester = 2 → (∀ q ∈ older, requestClass q.requester ≠ 2) →
        s.startNext = State.beginWrite { s with store := freed (older ++ newer) } r) ∧
      (∀ r newer, s.store.shared = r :: newer → newer.length < 8 →
        (∀ q ∈ r :: newer, requestClass q.requester ≠ 2) →
        s.startNext = State.beginWrite { s with store := freed newer } r) ∧
      (s.store.shared = [] → s.startNext = s))) ∧
  (∀ (s : State) (r : WriteRequest), fits32 (s.store.lastSequence + 1) →
    ∃ f, s.beginWrite r = { s with store := { s.store with
        slots := Table.drop s.store.slots f.slot, inFlight := some f } } ∧
      f.record.sequence = s.store.lastSequence + 1 ∧ f.record.time = s.clock.reading ∧
      f.record.check = recordCheck f.record ∧ f.second = false ∧ f.request.requester = r.requester ∧
      ((∀ n w, r.body ≠ .window n w) → f.request.body = r.body) ∧
      (∀ n w v, r.body = .window n w → s.window? n = some v → f.request.body = .window n v) ∧
      ((s.store.lastSlot + 1) % 4096 ∉ s.store.badSlots → f.slot = (s.store.lastSlot + 1) % 4096) ∧
      ((s.store.lastSlot + 1) % 4096 ∈ s.store.badSlots → s.store.badSlots.length = 1 →
        f.slot = ((s.store.lastSlot + 1) % 4096 + 1) % 4096))

/-- VERIFY_FAILURE: the first writes the record into its slot again; the second marks the slot bad, raises BAD_SLOT and
moves the same record to the next good slot; with 32 bad slots already the store enters FAILED instead (R172, R177). -/
def Obligations.FailedVerifiesMoveTheWrite : Prop :=
  ∀ (s : State) (f : InFlight), s.store.state ≠ .failed → s.store.inFlight = some f →
    (f.second = false →
      exec .verifyFailure s = .next (State.settleLink
        { s with store := { s.store with inFlight := some { f with second := true } } })) ∧
    (f.second = true → s.store.badSlots.length < 32 →
      let bad := s.store.badSlots ++ [f.slot]
      let next := nextGood bad bad.length f.slot
      exec .verifyFailure s = .next (State.settleLink (State.raise
        { s with store := { s.store with
            badSlots := bad, slots := Table.drop (Table.drop s.store.slots f.slot) next
            inFlight := some { f with slot := next, second := false } } } .badSlot))) ∧
    (f.second = true → 32 ≤ s.store.badSlots.length →
      exec .verifyFailure s = .next (State.settleLink
        ((State.notify { s with store := { s.store with state := .failed } }
          (.storeAlarm .failed s.free s.store.reserved)).raise .storeFailed)))

/-! ## Time and resets -/

/-- MINUTE_EVENT in a quiet minute, with no deadline reached and no close due: the minute counter rises by one; with TR
high the OPEN window gains a running minute, and with TR low the shift a stoppage minute; CLOCK_UNSET is raised
while the clock is unset (R51, R146, R183, R184; the order of the blocks' work is log 9). -/
def Obligations.MinutesAreCounted : Prop :=
  ∀ (s : State) (w : Window), s.canonical → fits32 (s.clock.minutes + 1) → s.window? s.windows.counter = some w →
    fits32 (w.running + 1) → w.extended = false → w.running + 1 < s.shift.working.maxRunning →
    (∀ n v d, s.window? n = some v → v.state = .closed → v.deadline = some d → s.clock.minutes + 1 < d) →
    (∀ b, s.clock.minutes + 1 < (s.bridge b).zeroDeadline) →
    let later : State := { s with clock := { s.clock with minutes := s.clock.minutes + 1 } }
    let marked (t : State) : Host.Outcome State Fault Refusal :=
      .next (State.settleLink (if s.clock.isSet then t else t.raise .clockUnset))
    (s.lines.tr.level = some true →
      exec .minuteEvent s = marked { later with windows := { s.windows with
        records := s.windows.records.modify s.windows.counter fun w => { w with running := w.running + 1 } } }) ∧
    (s.lines.tr.level ≠ some true →
      exec .minuteEvent s = marked { later with shift := { s.shift with acc := { s.shift.acc with
        stoppage := s.shift.acc.stoppage.plus 1 } } })

/-- The state after reset meets all of the invariants. BLANK_START gives every state the reset state, but for the levels
of its wires and the commands that wait (R2, R185; log 3, log 4), whatever the state's format mark (log 35). -/
def Obligations.BlankStartGivesTheSoundResetState : Prop :=
  (State.reset.canonical ∧ State.reset.oneOpenWindow ∧ State.reset.partsSound ∧ State.reset.beaconSound ∧
    State.reset.buffersSound ∧ State.reset.link.turnSound ∧ State.reset.bridgesSound ∧ State.reset.lampsSound) ∧
  ∀ s : State,
    let wires (f q : Quad Input) : Quad Input :=
      ⟨{ f.q1 with raw := q.q1.raw }, { f.q2 with raw := q.q2.raw }, { f.q3 with raw := q.q3.raw },
        { f.q4 with raw := q.q4.raw }⟩
    let l := State.reset.lines
    exec .blankStart s = .next { State.reset with
      pending := s.pending
      lines := { l with
        e := wires l.e s.lines.e, x := wires l.x s.lines.x, cp := { l.cp with raw := s.lines.cp.raw }
        jp := { l.jp with raw := s.lines.jp.raw }, wp := { l.wp with raw := s.lines.wp.raw }
        tr := { l.tr with raw := s.lines.tr.raw }, ss := { l.ss with raw := s.lines.ss.raw } } }

/-- RESTART of formatted memory keeps what is nonvolatile and sets the rest afresh: deliveries, vehicles, the Feed
Queue, profiles, configurations, calibrations, records owed, the export mark, line and link settings stay; bindings,
sessions, pending configurations, readings, reserved slots and the link's frames are gone; open counts are recounted;
each bridge stands LOCKED with its standing condition, or IDLE with ZERO_DUE; RESTARTED stands (R2, R24, R88, R118,
R141, R182, R202). Where the last record is good, the next good slot, which the test pattern was written over, holds
no record (R181; log 17). The row's four operands are log 5; that the last period shows as not stable and that the
wires stand as they did is log 4; that the filtered count is then 0 is log 37. -/
def Obligations.RestartKeepsWhatIsNonvolatile : Prop :=
  ∀ (s : State) (m sec failing : Nat) (stopped : Bool), s.store.formatMark = true →
    ∃ t, exec (.restart m sec stopped failing) s = .next t ∧
      (t.dt = { s.dt with reserved := 0 } ∧ t.vehicles = s.vehicles ∧ t.feed = s.feed ∧ t.shift = s.shift ∧
        t.pending = s.pending) ∧
      (∀ code, t.grower? code = (s.grower? code).map fun g => { g with
        openCount := (s.dt.records.filter fun p => p.2.grower == code).length }) ∧
      (t.windows.counter = s.windows.counter ∧ t.windows.pacing = s.windows.pacing ∧
        ∀ n w, s.window? n = some w → w.state ≠ .closed → t.window? n = some w) ∧
      (∀ b, t.channel b = { s.channel b with
        pending := none, session := none, mean := [], filtered := 0, rounded := none, period := none
        lastStable := false, overrange := false, underrange := false, wireOff := false, failRun := 0, passRun := 0 }) ∧
      (∀ b, (t.bridge b).binding = none ∧ (t.bridge b).present = false ∧ (t.bridge b).backlog = 0 ∧
        (t.bridge b).zeroDue = true ∧ (t.bridge b).currentZero = (s.channel b).cal.zeroCounts ∧
        (t.bridge b).lockCause =
          (if (s.channel b).active = ⟨0, 0, 0, 0, 0, 0⟩ then some .unconfigured
           else if (s.channel b).cal.valid then none else some .calInvalid) ∧
        (t.bridge b).state = (if (t.bridge b).lockCause.isSome then .locked else .idle)) ∧
      (t.store.exportMark = s.store.exportMark ∧ t.store.lastSequence = s.store.lastSequence ∧
        t.store.lastSlot = s.store.lastSlot ∧ t.store.formatMark = true ∧
        (s.store.lastRecordGood = true →
          Table.find t.store.slots (nextGood t.store.badSlots t.store.badSlots.length t.store.lastSlot) = none)) ∧
      (t.link.minRun = s.link.minRun ∧ t.link.maxRun = s.link.maxRun ∧ t.link.receiver = .hunting ∧
        t.link.input = [] ∧ t.link.replies = [] ∧ t.link.slot1 = none ∧ t.link.slot2 = none ∧ t.link.turn = none ∧
        t.link.flags.restarted.standing = true) ∧
      (t.lines.command = none ∧ t.lines.sc = .off ∧ t.lines.cpMass = s.lines.cpMass ∧
        t.lines.jpMass = s.lines.jpMass ∧ t.lines.wpMass = s.lines.wpMass ∧
        (∀ b, (t.lines.entryLamp.get b).safe = (s.lines.entryLamp.get b).safe ∧
          (t.lines.exitLamp.get b).safe = (s.lines.exitLamp.get b).safe) ∧
        ∀ line, t.lines.input line = { s.lines.input line with filtered := none, hold := none, steady := 0 })
end

