-- ==== Sys2Proof/Laws/State.lean ====
section
/-! SUPPORT. What each update of State does to each field: one lemma per field per update. -/
namespace Sys2Proof.Machine

open Sys2Proof

variable (s : State)

@[simp] theorem State.modChannel_bridges (c : BridgeNo) (f : Channel → Channel) : (s.modChannel c f).bridges = s.bridges := rfl
@[simp] theorem State.modChannel_channels (c : BridgeNo) (f : Channel → Channel) : (s.modChannel c f).channels = s.channels.set c (f (s.channels.get c)) := rfl
@[simp] theorem State.modChannel_lines (c : BridgeNo) (f : Channel → Channel) : (s.modChannel c f).lines = s.lines := rfl
@[simp] theorem State.modChannel_dt (c : BridgeNo) (f : Channel → Channel) : (s.modChannel c f).dt = s.dt := rfl
@[simp] theorem State.modChannel_vehicles (c : BridgeNo) (f : Channel → Channel) : (s.modChannel c f).vehicles = s.vehicles := rfl
@[simp] theorem State.modChannel_feed (c : BridgeNo) (f : Channel → Channel) : (s.modChannel c f).feed = s.feed := rfl
@[simp] theorem State.modChannel_windows (c : BridgeNo) (f : Channel → Channel) : (s.modChannel c f).windows = s.windows := rfl
@[simp] theorem State.modChannel_growers (c : BridgeNo) (f : Channel → Channel) : (s.modChannel c f).growers = s.growers := rfl
@[simp] theorem State.modChannel_shift (c : BridgeNo) (f : Channel → Channel) : (s.modChannel c f).shift = s.shift := rfl
@[simp] theorem State.modChannel_store (c : BridgeNo) (f : Channel → Channel) : (s.modChannel c f).store = s.store := rfl
@[simp] theorem State.modChannel_clock (c : BridgeNo) (f : Channel → Channel) : (s.modChannel c f).clock = s.clock := rfl
@[simp] theorem State.modChannel_link (c : BridgeNo) (f : Channel → Channel) : (s.modChannel c f).link = s.link := rfl
@[simp] theorem State.modChannel_pending (c : BridgeNo) (f : Channel → Channel) : (s.modChannel c f).pending = s.pending := rfl

@[simp] theorem State.modDelivery_bridges (n : Nat) (f : Delivery → Delivery) : (s.modDelivery n f).bridges = s.bridges := rfl
@[simp] theorem State.modDelivery_channels (n : Nat) (f : Delivery → Delivery) : (s.modDelivery n f).channels = s.channels := rfl
@[simp] theorem State.modDelivery_lines (n : Nat) (f : Delivery → Delivery) : (s.modDelivery n f).lines = s.lines := rfl
@[simp] theorem State.modDelivery_dt (n : Nat) (f : Delivery → Delivery) : (s.modDelivery n f).dt = { s.dt with records := s.dt.records.modify n f } := rfl
@[simp] theorem State.modDelivery_vehicles (n : Nat) (f : Delivery → Delivery) : (s.modDelivery n f).vehicles = s.vehicles := rfl
@[simp] theorem State.modDelivery_feed (n : Nat) (f : Delivery → Delivery) : (s.modDelivery n f).feed = s.feed := rfl
@[simp] theorem State.modDelivery_windows (n : Nat) (f : Delivery → Delivery) : (s.modDelivery n f).windows = s.windows := rfl
@[simp] theorem State.modDelivery_growers (n : Nat) (f : Delivery → Delivery) : (s.modDelivery n f).growers = s.growers := rfl
@[simp] theorem State.modDelivery_shift (n : Nat) (f : Delivery → Delivery) : (s.modDelivery n f).shift = s.shift := rfl
@[simp] theorem State.modDelivery_store (n : Nat) (f : Delivery → Delivery) : (s.modDelivery n f).store = s.store := rfl
@[simp] theorem State.modDelivery_clock (n : Nat) (f : Delivery → Delivery) : (s.modDelivery n f).clock = s.clock := rfl
@[simp] theorem State.modDelivery_link (n : Nat) (f : Delivery → Delivery) : (s.modDelivery n f).link = s.link := rfl
@[simp] theorem State.modDelivery_pending (n : Nat) (f : Delivery → Delivery) : (s.modDelivery n f).pending = s.pending := rfl

@[simp] theorem State.modWindow_bridges (n : Nat) (f : Window → Window) : (s.modWindow n f).bridges = s.bridges := rfl
@[simp] theorem State.modWindow_channels (n : Nat) (f : Window → Window) : (s.modWindow n f).channels = s.channels := rfl
@[simp] theorem State.modWindow_lines (n : Nat) (f : Window → Window) : (s.modWindow n f).lines = s.lines := rfl
@[simp] theorem State.modWindow_dt (n : Nat) (f : Window → Window) : (s.modWindow n f).dt = s.dt := rfl
@[simp] theorem State.modWindow_vehicles (n : Nat) (f : Window → Window) : (s.modWindow n f).vehicles = s.vehicles := rfl
@[simp] theorem State.modWindow_feed (n : Nat) (f : Window → Window) : (s.modWindow n f).feed = s.feed := rfl
@[simp] theorem State.modWindow_windows (n : Nat) (f : Window → Window) : (s.modWindow n f).windows = { s.windows with records := s.windows.records.modify n f } := rfl
@[simp] theorem State.modWindow_growers (n : Nat) (f : Window → Window) : (s.modWindow n f).growers = s.growers := rfl
@[simp] theorem State.modWindow_shift (n : Nat) (f : Window → Window) : (s.modWindow n f).shift = s.shift := rfl
@[simp] theorem State.modWindow_store (n : Nat) (f : Window → Window) : (s.modWindow n f).store = s.store := rfl
@[simp] theorem State.modWindow_clock (n : Nat) (f : Window → Window) : (s.modWindow n f).clock = s.clock := rfl
@[simp] theorem State.modWindow_link (n : Nat) (f : Window → Window) : (s.modWindow n f).link = s.link := rfl
@[simp] theorem State.modWindow_pending (n : Nat) (f : Window → Window) : (s.modWindow n f).pending = s.pending := rfl

@[simp] theorem State.modGrower_bridges (n : Nat) (f : Grower → Grower) : (s.modGrower n f).bridges = s.bridges := rfl
@[simp] theorem State.modGrower_channels (n : Nat) (f : Grower → Grower) : (s.modGrower n f).channels = s.channels := rfl
@[simp] theorem State.modGrower_lines (n : Nat) (f : Grower → Grower) : (s.modGrower n f).lines = s.lines := rfl
@[simp] theorem State.modGrower_dt (n : Nat) (f : Grower → Grower) : (s.modGrower n f).dt = s.dt := rfl
@[simp] theorem State.modGrower_vehicles (n : Nat) (f : Grower → Grower) : (s.modGrower n f).vehicles = s.vehicles := rfl
@[simp] theorem State.modGrower_feed (n : Nat) (f : Grower → Grower) : (s.modGrower n f).feed = s.feed := rfl
@[simp] theorem State.modGrower_windows (n : Nat) (f : Grower → Grower) : (s.modGrower n f).windows = s.windows := rfl
@[simp] theorem State.modGrower_growers (n : Nat) (f : Grower → Grower) : (s.modGrower n f).growers = Table.modify s.growers n f := rfl
@[simp] theorem State.modGrower_shift (n : Nat) (f : Grower → Grower) : (s.modGrower n f).shift = s.shift := rfl
@[simp] theorem State.modGrower_store (n : Nat) (f : Grower → Grower) : (s.modGrower n f).store = s.store := rfl
@[simp] theorem State.modGrower_clock (n : Nat) (f : Grower → Grower) : (s.modGrower n f).clock = s.clock := rfl
@[simp] theorem State.modGrower_link (n : Nat) (f : Grower → Grower) : (s.modGrower n f).link = s.link := rfl
@[simp] theorem State.modGrower_pending (n : Nat) (f : Grower → Grower) : (s.modGrower n f).pending = s.pending := rfl

@[simp] theorem State.modVehicle_bridges (n : Nat) (f : Vehicle → Vehicle) : (s.modVehicle n f).bridges = s.bridges := rfl
@[simp] theorem State.modVehicle_channels (n : Nat) (f : Vehicle → Vehicle) : (s.modVehicle n f).channels = s.channels := rfl
@[simp] theorem State.modVehicle_lines (n : Nat) (f : Vehicle → Vehicle) : (s.modVehicle n f).lines = s.lines := rfl
@[simp] theorem State.modVehicle_dt (n : Nat) (f : Vehicle → Vehicle) : (s.modVehicle n f).dt = s.dt := rfl
@[simp] theorem State.modVehicle_vehicles (n : Nat) (f : Vehicle → Vehicle) : (s.modVehicle n f).vehicles = Table.modify s.vehicles n f := rfl
@[simp] theorem State.modVehicle_feed (n : Nat) (f : Vehicle → Vehicle) : (s.modVehicle n f).feed = s.feed := rfl
@[simp] theorem State.modVehicle_windows (n : Nat) (f : Vehicle → Vehicle) : (s.modVehicle n f).windows = s.windows := rfl
@[simp] theorem State.modVehicle_growers (n : Nat) (f : Vehicle → Vehicle) : (s.modVehicle n f).growers = s.growers := rfl
@[simp] theorem State.modVehicle_shift (n : Nat) (f : Vehicle → Vehicle) : (s.modVehicle n f).shift = s.shift := rfl
@[simp] theorem State.modVehicle_store (n : Nat) (f : Vehicle → Vehicle) : (s.modVehicle n f).store = s.store := rfl
@[simp] theorem State.modVehicle_clock (n : Nat) (f : Vehicle → Vehicle) : (s.modVehicle n f).clock = s.clock := rfl
@[simp] theorem State.modVehicle_link (n : Nat) (f : Vehicle → Vehicle) : (s.modVehicle n f).link = s.link := rfl
@[simp] theorem State.modVehicle_pending (n : Nat) (f : Vehicle → Vehicle) : (s.modVehicle n f).pending = s.pending := rfl

@[simp] theorem State.tally_bridges (f : Accumulators → Accumulators) : (s.tally f).bridges = s.bridges := rfl
@[simp] theorem State.tally_channels (f : Accumulators → Accumulators) : (s.tally f).channels = s.channels := rfl
@[simp] theorem State.tally_lines (f : Accumulators → Accumulators) : (s.tally f).lines = s.lines := rfl
@[simp] theorem State.tally_dt (f : Accumulators → Accumulators) : (s.tally f).dt = s.dt := rfl
@[simp] theorem State.tally_vehicles (f : Accumulators → Accumulators) : (s.tally f).vehicles = s.vehicles := rfl
@[simp] theorem State.tally_feed (f : Accumulators → Accumulators) : (s.tally f).feed = s.feed := rfl
@[simp] theorem State.tally_windows (f : Accumulators → Accumulators) : (s.tally f).windows = s.windows := rfl
@[simp] theorem State.tally_growers (f : Accumulators → Accumulators) : (s.tally f).growers = s.growers := rfl
@[simp] theorem State.tally_shift (f : Accumulators → Accumulators) : (s.tally f).shift = { s.shift with acc := f s.shift.acc } := rfl
@[simp] theorem State.tally_store (f : Accumulators → Accumulators) : (s.tally f).store = s.store := rfl
@[simp] theorem State.tally_clock (f : Accumulators → Accumulators) : (s.tally f).clock = s.clock := rfl
@[simp] theorem State.tally_link (f : Accumulators → Accumulators) : (s.tally f).link = s.link := rfl
@[simp] theorem State.tally_pending (f : Accumulators → Accumulators) : (s.tally f).pending = s.pending := rfl

@[simp] theorem State.setInput_bridges (l : InputLine) (i : Input) : (s.setInput l i).bridges = s.bridges := rfl
@[simp] theorem State.setInput_channels (l : InputLine) (i : Input) : (s.setInput l i).channels = s.channels := rfl
@[simp] theorem State.setInput_lines (l : InputLine) (i : Input) : (s.setInput l i).lines = s.lines.setInput l i := rfl
@[simp] theorem State.setInput_dt (l : InputLine) (i : Input) : (s.setInput l i).dt = s.dt := rfl
@[simp] theorem State.setInput_vehicles (l : InputLine) (i : Input) : (s.setInput l i).vehicles = s.vehicles := rfl
@[simp] theorem State.setInput_feed (l : InputLine) (i : Input) : (s.setInput l i).feed = s.feed := rfl
@[simp] theorem State.setInput_windows (l : InputLine) (i : Input) : (s.setInput l i).windows = s.windows := rfl
@[simp] theorem State.setInput_growers (l : InputLine) (i : Input) : (s.setInput l i).growers = s.growers := rfl
@[simp] theorem State.setInput_shift (l : InputLine) (i : Input) : (s.setInput l i).shift = s.shift := rfl
@[simp] theorem State.setInput_store (l : InputLine) (i : Input) : (s.setInput l i).store = s.store := rfl
@[simp] theorem State.setInput_clock (l : InputLine) (i : Input) : (s.setInput l i).clock = s.clock := rfl
@[simp] theorem State.setInput_link (l : InputLine) (i : Input) : (s.setInput l i).link = s.link := rfl
@[simp] theorem State.setInput_pending (l : InputLine) (i : Input) : (s.setInput l i).pending = s.pending := rfl

@[simp] theorem State.setReceiver_bridges (r : Receiver) : (s.setReceiver r).bridges = s.bridges := rfl
@[simp] theorem State.setReceiver_channels (r : Receiver) : (s.setReceiver r).channels = s.channels := rfl
@[simp] theorem State.setReceiver_lines (r : Receiver) : (s.setReceiver r).lines = s.lines := rfl
@[simp] theorem State.setReceiver_dt (r : Receiver) : (s.setReceiver r).dt = s.dt := rfl
@[simp] theorem State.setReceiver_vehicles (r : Receiver) : (s.setReceiver r).vehicles = s.vehicles := rfl
@[simp] theorem State.setReceiver_feed (r : Receiver) : (s.setReceiver r).feed = s.feed := rfl
@[simp] theorem State.setReceiver_windows (r : Receiver) : (s.setReceiver r).windows = s.windows := rfl
@[simp] theorem State.setReceiver_growers (r : Receiver) : (s.setReceiver r).growers = s.growers := rfl
@[simp] theorem State.setReceiver_shift (r : Receiver) : (s.setReceiver r).shift = s.shift := rfl
@[simp] theorem State.setReceiver_store (r : Receiver) : (s.setReceiver r).store = s.store := rfl
@[simp] theorem State.setReceiver_clock (r : Receiver) : (s.setReceiver r).clock = s.clock := rfl
@[simp] theorem State.setReceiver_link (r : Receiver) : (s.setReceiver r).link = { s.link with receiver := r } := rfl
@[simp] theorem State.setReceiver_pending (r : Receiver) : (s.setReceiver r).pending = s.pending := rfl

@[simp] theorem State.placeReply_bridges (r : Reply) : (s.placeReply r).bridges = s.bridges := rfl
@[simp] theorem State.placeReply_channels (r : Reply) : (s.placeReply r).channels = s.channels := rfl
@[simp] theorem State.placeReply_lines (r : Reply) : (s.placeReply r).lines = s.lines := rfl
@[simp] theorem State.placeReply_dt (r : Reply) : (s.placeReply r).dt = s.dt := rfl
@[simp] theorem State.placeReply_vehicles (r : Reply) : (s.placeReply r).vehicles = s.vehicles := rfl
@[simp] theorem State.placeReply_feed (r : Reply) : (s.placeReply r).feed = s.feed := rfl
@[simp] theorem State.placeReply_windows (r : Reply) : (s.placeReply r).windows = s.windows := rfl
@[simp] theorem State.placeReply_growers (r : Reply) : (s.placeReply r).growers = s.growers := rfl
@[simp] theorem State.placeReply_shift (r : Reply) : (s.placeReply r).shift = s.shift := rfl
@[simp] theorem State.placeReply_store (r : Reply) : (s.placeReply r).store = s.store := rfl
@[simp] theorem State.placeReply_clock (r : Reply) : (s.placeReply r).clock = s.clock := rfl
@[simp] theorem State.placeReply_link (r : Reply) : (s.placeReply r).link = { s.link with replies := s.link.replies ++ [r] } := rfl
@[simp] theorem State.placeReply_pending (r : Reply) : (s.placeReply r).pending = s.pending := rfl

@[simp] theorem State.transmit_bridges (f : OutFrame) (m : Option TurnMark) : (s.transmit f m).bridges = s.bridges := rfl
@[simp] theorem State.transmit_channels (f : OutFrame) (m : Option TurnMark) : (s.transmit f m).channels = s.channels := rfl
@[simp] theorem State.transmit_lines (f : OutFrame) (m : Option TurnMark) : (s.transmit f m).lines = s.lines := rfl
@[simp] theorem State.transmit_dt (f : OutFrame) (m : Option TurnMark) : (s.transmit f m).dt = s.dt := rfl
@[simp] theorem State.transmit_vehicles (f : OutFrame) (m : Option TurnMark) : (s.transmit f m).vehicles = s.vehicles := rfl
@[simp] theorem State.transmit_feed (f : OutFrame) (m : Option TurnMark) : (s.transmit f m).feed = s.feed := rfl
@[simp] theorem State.transmit_windows (f : OutFrame) (m : Option TurnMark) : (s.transmit f m).windows = s.windows := rfl
@[simp] theorem State.transmit_growers (f : OutFrame) (m : Option TurnMark) : (s.transmit f m).growers = s.growers := rfl
@[simp] theorem State.transmit_shift (f : OutFrame) (m : Option TurnMark) : (s.transmit f m).shift = s.shift := rfl
@[simp] theorem State.transmit_store (f : OutFrame) (m : Option TurnMark) : (s.transmit f m).store = s.store := rfl
@[simp] theorem State.transmit_clock (f : OutFrame) (m : Option TurnMark) : (s.transmit f m).clock = s.clock := rfl
@[simp] theorem State.transmit_link (f : OutFrame) (m : Option TurnMark) : (s.transmit f m).link = { s.link with sending := some { frame := f, bytes := outFrameBytes f, mark := m } } := rfl
@[simp] theorem State.transmit_pending (f : OutFrame) (m : Option TurnMark) : (s.transmit f m).pending = s.pending := rfl

@[simp] theorem State.endCommand_bridges : (s.endCommand).bridges = s.bridges := rfl
@[simp] theorem State.endCommand_channels : (s.endCommand).channels = s.channels := rfl
@[simp] theorem State.endCommand_lines : (s.endCommand).lines = { s.lines with command := none } := rfl
@[simp] theorem State.endCommand_dt : (s.endCommand).dt = s.dt := rfl
@[simp] theorem State.endCommand_vehicles : (s.endCommand).vehicles = s.vehicles := rfl
@[simp] theorem State.endCommand_feed : (s.endCommand).feed = s.feed := rfl
@[simp] theorem State.endCommand_windows : (s.endCommand).windows = s.windows := rfl
@[simp] theorem State.endCommand_growers : (s.endCommand).growers = s.growers := rfl
@[simp] theorem State.endCommand_shift : (s.endCommand).shift = s.shift := rfl
@[simp] theorem State.endCommand_store : (s.endCommand).store = s.store := rfl
@[simp] theorem State.endCommand_clock : (s.endCommand).clock = s.clock := rfl
@[simp] theorem State.endCommand_link : (s.endCommand).link = s.link := rfl
@[simp] theorem State.endCommand_pending : (s.endCommand).pending = s.pending := rfl

@[simp] theorem State.setFlags_bridges (a : Attention) : (s.setFlags a).bridges = s.bridges := rfl
@[simp] theorem State.setFlags_channels (a : Attention) : (s.setFlags a).channels = s.channels := rfl
@[simp] theorem State.setFlags_lines (a : Attention) : (s.setFlags a).lines = { s.lines with al := a.alarm } := rfl
@[simp] theorem State.setFlags_dt (a : Attention) : (s.setFlags a).dt = s.dt := rfl
@[simp] theorem State.setFlags_vehicles (a : Attention) : (s.setFlags a).vehicles = s.vehicles := rfl
@[simp] theorem State.setFlags_feed (a : Attention) : (s.setFlags a).feed = s.feed := rfl
@[simp] theorem State.setFlags_windows (a : Attention) : (s.setFlags a).windows = s.windows := rfl
@[simp] theorem State.setFlags_growers (a : Attention) : (s.setFlags a).growers = s.growers := rfl
@[simp] theorem State.setFlags_shift (a : Attention) : (s.setFlags a).shift = s.shift := rfl
@[simp] theorem State.setFlags_store (a : Attention) : (s.setFlags a).store = s.store := rfl
@[simp] theorem State.setFlags_clock (a : Attention) : (s.setFlags a).clock = s.clock := rfl
@[simp] theorem State.setFlags_link (a : Attention) : (s.setFlags a).link = { s.link with flags := a } := rfl
@[simp] theorem State.setFlags_pending (a : Attention) : (s.setFlags a).pending = s.pending := rfl

@[simp] theorem State.raise_bridges (f : Flag) : (s.raise f).bridges = s.bridges := rfl
@[simp] theorem State.raise_channels (f : Flag) : (s.raise f).channels = s.channels := rfl
@[simp] theorem State.raise_lines (f : Flag) : (s.raise f).lines = { s.lines with al := (s.link.flags.set f (s.link.flags.get f).raised).alarm } := rfl
@[simp] theorem State.raise_dt (f : Flag) : (s.raise f).dt = s.dt := rfl
@[simp] theorem State.raise_vehicles (f : Flag) : (s.raise f).vehicles = s.vehicles := rfl
@[simp] theorem State.raise_feed (f : Flag) : (s.raise f).feed = s.feed := rfl
@[simp] theorem State.raise_windows (f : Flag) : (s.raise f).windows = s.windows := rfl
@[simp] theorem State.raise_growers (f : Flag) : (s.raise f).growers = s.growers := rfl
@[simp] theorem State.raise_shift (f : Flag) : (s.raise f).shift = s.shift := rfl
@[simp] theorem State.raise_store (f : Flag) : (s.raise f).store = s.store := rfl
@[simp] theorem State.raise_clock (f : Flag) : (s.raise f).clock = s.clock := rfl
@[simp] theorem State.raise_link (f : Flag) : (s.raise f).link = { s.link with flags := s.link.flags.set f (s.link.flags.get f).raised } := rfl
@[simp] theorem State.raise_pending (f : Flag) : (s.raise f).pending = s.pending := rfl

@[simp] theorem State.driveLamps_bridges (b : BridgeNo) : (s.driveLamps b).bridges = s.bridges := rfl
@[simp] theorem State.driveLamps_channels (b : BridgeNo) : (s.driveLamps b).channels = s.channels := rfl
@[simp] theorem State.driveLamps_dt (b : BridgeNo) : (s.driveLamps b).dt = s.dt := rfl
@[simp] theorem State.driveLamps_vehicles (b : BridgeNo) : (s.driveLamps b).vehicles = s.vehicles := rfl
@[simp] theorem State.driveLamps_feed (b : BridgeNo) : (s.driveLamps b).feed = s.feed := rfl
@[simp] theorem State.driveLamps_windows (b : BridgeNo) : (s.driveLamps b).windows = s.windows := rfl
@[simp] theorem State.driveLamps_growers (b : BridgeNo) : (s.driveLamps b).growers = s.growers := rfl
@[simp] theorem State.driveLamps_shift (b : BridgeNo) : (s.driveLamps b).shift = s.shift := rfl
@[simp] theorem State.driveLamps_store (b : BridgeNo) : (s.driveLamps b).store = s.store := rfl
@[simp] theorem State.driveLamps_clock (b : BridgeNo) : (s.driveLamps b).clock = s.clock := rfl
@[simp] theorem State.driveLamps_link (b : BridgeNo) : (s.driveLamps b).link = s.link := rfl
@[simp] theorem State.driveLamps_pending (b : BridgeNo) : (s.driveLamps b).pending = s.pending := rfl

@[simp] theorem State.modBridge_bridges (b : BridgeNo) (f : Bridge → Bridge) : (s.modBridge b f).bridges = s.bridges.set b (f (s.bridges.get b)) := rfl
@[simp] theorem State.modBridge_channels (b : BridgeNo) (f : Bridge → Bridge) : (s.modBridge b f).channels = s.channels := rfl
@[simp] theorem State.modBridge_dt (b : BridgeNo) (f : Bridge → Bridge) : (s.modBridge b f).dt = s.dt := rfl
@[simp] theorem State.modBridge_vehicles (b : BridgeNo) (f : Bridge → Bridge) : (s.modBridge b f).vehicles = s.vehicles := rfl
@[simp] theorem State.modBridge_feed (b : BridgeNo) (f : Bridge → Bridge) : (s.modBridge b f).feed = s.feed := rfl
@[simp] theorem State.modBridge_windows (b : BridgeNo) (f : Bridge → Bridge) : (s.modBridge b f).windows = s.windows := rfl
@[simp] theorem State.modBridge_growers (b : BridgeNo) (f : Bridge → Bridge) : (s.modBridge b f).growers = s.growers := rfl
@[simp] theorem State.modBridge_shift (b : BridgeNo) (f : Bridge → Bridge) : (s.modBridge b f).shift = s.shift := rfl
@[simp] theorem State.modBridge_store (b : BridgeNo) (f : Bridge → Bridge) : (s.modBridge b f).store = s.store := rfl
@[simp] theorem State.modBridge_clock (b : BridgeNo) (f : Bridge → Bridge) : (s.modBridge b f).clock = s.clock := rfl
@[simp] theorem State.modBridge_link (b : BridgeNo) (f : Bridge → Bridge) : (s.modBridge b f).link = s.link := rfl
@[simp] theorem State.modBridge_pending (b : BridgeNo) (f : Bridge → Bridge) : (s.modBridge b f).pending = s.pending := rfl

@[simp] theorem State.tick_bridges : (s.tick).bridges = s.bridges.map Bridge.tick := rfl
@[simp] theorem State.tick_channels : (s.tick).channels = s.channels.map Channel.tick := rfl
@[simp] theorem State.tick_lines : (s.tick).lines = s.lines.tick := rfl
@[simp] theorem State.tick_dt : (s.tick).dt = s.dt := rfl
@[simp] theorem State.tick_vehicles : (s.tick).vehicles = s.vehicles := rfl
@[simp] theorem State.tick_feed : (s.tick).feed = s.feed := rfl
@[simp] theorem State.tick_windows : (s.tick).windows = s.windows := rfl
@[simp] theorem State.tick_growers : (s.tick).growers = s.growers := rfl
@[simp] theorem State.tick_shift : (s.tick).shift = s.shift := rfl
@[simp] theorem State.tick_store : (s.tick).store = s.store := rfl
@[simp] theorem State.tick_clock : (s.tick).clock = s.clock.tick := rfl
@[simp] theorem State.tick_link : (s.tick).link = s.link := rfl
@[simp] theorem State.tick_pending : (s.tick).pending = s.pending := rfl

end Sys2Proof.Machine
end

