-- ==== Sys2Proof/Laws/Frames.lean ====
section
/-! SUPPORT. What the shared operations leave alone: one lemma per operation and untouched field. -/
namespace Sys2Proof.Machine

open Sys2Proof

variable (s : State)

@[simp] theorem State.notify_bridges (body : NoticeBody) : (s.notify body).bridges = s.bridges := by
  unfold State.notify; dsimp only; split
  · rfl
  · split
    · split <;> rfl
    · rfl
@[simp] theorem State.notify_channels (body : NoticeBody) : (s.notify body).channels = s.channels := by
  unfold State.notify; dsimp only; split
  · rfl
  · split
    · split <;> rfl
    · rfl
@[simp] theorem State.notify_dt (body : NoticeBody) : (s.notify body).dt = s.dt := by
  unfold State.notify; dsimp only; split
  · rfl
  · split
    · split <;> rfl
    · rfl
@[simp] theorem State.notify_vehicles (body : NoticeBody) : (s.notify body).vehicles = s.vehicles := by
  unfold State.notify; dsimp only; split
  · rfl
  · split
    · split <;> rfl
    · rfl
@[simp] theorem State.notify_feed (body : NoticeBody) : (s.notify body).feed = s.feed := by
  unfold State.notify; dsimp only; split
  · rfl
  · split
    · split <;> rfl
    · rfl
@[simp] theorem State.notify_windows (body : NoticeBody) : (s.notify body).windows = s.windows := by
  unfold State.notify; dsimp only; split
  · rfl
  · split
    · split <;> rfl
    · rfl
@[simp] theorem State.notify_growers (body : NoticeBody) : (s.notify body).growers = s.growers := by
  unfold State.notify; dsimp only; split
  · rfl
  · split
    · split <;> rfl
    · rfl
@[simp] theorem State.notify_shift (body : NoticeBody) : (s.notify body).shift = s.shift := by
  unfold State.notify; dsimp only; split
  · rfl
  · split
    · split <;> rfl
    · rfl
@[simp] theorem State.notify_store (body : NoticeBody) : (s.notify body).store = s.store := by
  unfold State.notify; dsimp only; split
  · rfl
  · split
    · split <;> rfl
    · rfl
@[simp] theorem State.notify_clock (body : NoticeBody) : (s.notify body).clock = s.clock := by
  unfold State.notify; dsimp only; split
  · rfl
  · split
    · split <;> rfl
    · rfl
@[simp] theorem State.notify_pending (body : NoticeBody) : (s.notify body).pending = s.pending := by
  unfold State.notify; dsimp only; split
  · rfl
  · split
    · split <;> rfl
    · rfl

@[simp] theorem State.judgeStore_bridges : (s.judgeStore).bridges = s.bridges := by
  unfold State.judgeStore; dsimp only; repeat' split
  all_goals simp
@[simp] theorem State.judgeStore_channels : (s.judgeStore).channels = s.channels := by
  unfold State.judgeStore; dsimp only; repeat' split
  all_goals simp
@[simp] theorem State.judgeStore_dt : (s.judgeStore).dt = s.dt := by
  unfold State.judgeStore; dsimp only; repeat' split
  all_goals simp
@[simp] theorem State.judgeStore_vehicles : (s.judgeStore).vehicles = s.vehicles := by
  unfold State.judgeStore; dsimp only; repeat' split
  all_goals simp
@[simp] theorem State.judgeStore_feed : (s.judgeStore).feed = s.feed := by
  unfold State.judgeStore; dsimp only; repeat' split
  all_goals simp
@[simp] theorem State.judgeStore_windows : (s.judgeStore).windows = s.windows := by
  unfold State.judgeStore; dsimp only; repeat' split
  all_goals simp
@[simp] theorem State.judgeStore_growers : (s.judgeStore).growers = s.growers := by
  unfold State.judgeStore; dsimp only; repeat' split
  all_goals simp
@[simp] theorem State.judgeStore_shift : (s.judgeStore).shift = s.shift := by
  unfold State.judgeStore; dsimp only; repeat' split
  all_goals simp
@[simp] theorem State.judgeStore_clock : (s.judgeStore).clock = s.clock := by
  unfold State.judgeStore; dsimp only; repeat' split
  all_goals simp
@[simp] theorem State.judgeStore_pending : (s.judgeStore).pending = s.pending := by
  unfold State.judgeStore; dsimp only; repeat' split
  all_goals simp

@[simp] theorem State.reserve_bridges (k : Nat) : (s.reserve k).bridges = s.bridges := by
  simp [State.reserve]
@[simp] theorem State.reserve_channels (k : Nat) : (s.reserve k).channels = s.channels := by
  simp [State.reserve]
@[simp] theorem State.reserve_dt (k : Nat) : (s.reserve k).dt = s.dt := by
  simp [State.reserve]
@[simp] theorem State.reserve_vehicles (k : Nat) : (s.reserve k).vehicles = s.vehicles := by
  simp [State.reserve]
@[simp] theorem State.reserve_feed (k : Nat) : (s.reserve k).feed = s.feed := by
  simp [State.reserve]
@[simp] theorem State.reserve_windows (k : Nat) : (s.reserve k).windows = s.windows := by
  simp [State.reserve]
@[simp] theorem State.reserve_growers (k : Nat) : (s.reserve k).growers = s.growers := by
  simp [State.reserve]
@[simp] theorem State.reserve_shift (k : Nat) : (s.reserve k).shift = s.shift := by
  simp [State.reserve]
@[simp] theorem State.reserve_clock (k : Nat) : (s.reserve k).clock = s.clock := by
  simp [State.reserve]
@[simp] theorem State.reserve_pending (k : Nat) : (s.reserve k).pending = s.pending := by
  simp [State.reserve]

@[simp] theorem State.giveBack_bridges (k : Nat) : (s.giveBack k).bridges = s.bridges := by
  simp [State.giveBack]
@[simp] theorem State.giveBack_channels (k : Nat) : (s.giveBack k).channels = s.channels := by
  simp [State.giveBack]
@[simp] theorem State.giveBack_dt (k : Nat) : (s.giveBack k).dt = s.dt := by
  simp [State.giveBack]
@[simp] theorem State.giveBack_vehicles (k : Nat) : (s.giveBack k).vehicles = s.vehicles := by
  simp [State.giveBack]
@[simp] theorem State.giveBack_feed (k : Nat) : (s.giveBack k).feed = s.feed := by
  simp [State.giveBack]
@[simp] theorem State.giveBack_windows (k : Nat) : (s.giveBack k).windows = s.windows := by
  simp [State.giveBack]
@[simp] theorem State.giveBack_growers (k : Nat) : (s.giveBack k).growers = s.growers := by
  simp [State.giveBack]
@[simp] theorem State.giveBack_shift (k : Nat) : (s.giveBack k).shift = s.shift := by
  simp [State.giveBack]
@[simp] theorem State.giveBack_clock (k : Nat) : (s.giveBack k).clock = s.clock := by
  simp [State.giveBack]
@[simp] theorem State.giveBack_pending (k : Nat) : (s.giveBack k).pending = s.pending := by
  simp [State.giveBack]

@[simp] theorem State.failStore_bridges : (s.failStore).bridges = s.bridges := by
  simp [State.failStore]
@[simp] theorem State.failStore_channels : (s.failStore).channels = s.channels := by
  simp [State.failStore]
@[simp] theorem State.failStore_dt : (s.failStore).dt = s.dt := by
  simp [State.failStore]
@[simp] theorem State.failStore_vehicles : (s.failStore).vehicles = s.vehicles := by
  simp [State.failStore]
@[simp] theorem State.failStore_feed : (s.failStore).feed = s.feed := by
  simp [State.failStore]
@[simp] theorem State.failStore_windows : (s.failStore).windows = s.windows := by
  simp [State.failStore]
@[simp] theorem State.failStore_growers : (s.failStore).growers = s.growers := by
  simp [State.failStore]
@[simp] theorem State.failStore_shift : (s.failStore).shift = s.shift := by
  simp [State.failStore]
@[simp] theorem State.failStore_clock : (s.failStore).clock = s.clock := by
  simp [State.failStore]
@[simp] theorem State.failStore_pending : (s.failStore).pending = s.pending := by
  simp [State.failStore]

@[simp] theorem State.beginWrite_bridges (r : WriteRequest) : (s.beginWrite r).bridges = s.bridges := rfl
@[simp] theorem State.beginWrite_channels (r : WriteRequest) : (s.beginWrite r).channels = s.channels := rfl
@[simp] theorem State.beginWrite_lines (r : WriteRequest) : (s.beginWrite r).lines = s.lines := rfl
@[simp] theorem State.beginWrite_dt (r : WriteRequest) : (s.beginWrite r).dt = s.dt := rfl
@[simp] theorem State.beginWrite_vehicles (r : WriteRequest) : (s.beginWrite r).vehicles = s.vehicles := rfl
@[simp] theorem State.beginWrite_feed (r : WriteRequest) : (s.beginWrite r).feed = s.feed := rfl
@[simp] theorem State.beginWrite_windows (r : WriteRequest) : (s.beginWrite r).windows = s.windows := rfl
@[simp] theorem State.beginWrite_growers (r : WriteRequest) : (s.beginWrite r).growers = s.growers := rfl
@[simp] theorem State.beginWrite_shift (r : WriteRequest) : (s.beginWrite r).shift = s.shift := rfl
@[simp] theorem State.beginWrite_clock (r : WriteRequest) : (s.beginWrite r).clock = s.clock := rfl
@[simp] theorem State.beginWrite_link (r : WriteRequest) : (s.beginWrite r).link = s.link := rfl
@[simp] theorem State.beginWrite_pending (r : WriteRequest) : (s.beginWrite r).pending = s.pending := rfl

@[simp] theorem State.startNext_bridges : (s.startNext).bridges = s.bridges := by
  unfold State.startNext; split
  · rfl
  · split
    · rfl
    · split <;> rfl
@[simp] theorem State.startNext_channels : (s.startNext).channels = s.channels := by
  unfold State.startNext; split
  · rfl
  · split
    · rfl
    · split <;> rfl
@[simp] theorem State.startNext_lines : (s.startNext).lines = s.lines := by
  unfold State.startNext; split
  · rfl
  · split
    · rfl
    · split <;> rfl
@[simp] theorem State.startNext_dt : (s.startNext).dt = s.dt := by
  unfold State.startNext; split
  · rfl
  · split
    · rfl
    · split <;> rfl
@[simp] theorem State.startNext_vehicles : (s.startNext).vehicles = s.vehicles := by
  unfold State.startNext; split
  · rfl
  · split
    · rfl
    · split <;> rfl
@[simp] theorem State.startNext_feed : (s.startNext).feed = s.feed := by
  unfold State.startNext; split
  · rfl
  · split
    · rfl
    · split <;> rfl
@[simp] theorem State.startNext_windows : (s.startNext).windows = s.windows := by
  unfold State.startNext; split
  · rfl
  · split
    · rfl
    · split <;> rfl
@[simp] theorem State.startNext_growers : (s.startNext).growers = s.growers := by
  unfold State.startNext; split
  · rfl
  · split
    · rfl
    · split <;> rfl
@[simp] theorem State.startNext_shift : (s.startNext).shift = s.shift := by
  unfold State.startNext; split
  · rfl
  · split
    · rfl
    · split <;> rfl
@[simp] theorem State.startNext_clock : (s.startNext).clock = s.clock := by
  unfold State.startNext; split
  · rfl
  · split
    · rfl
    · split <;> rfl
@[simp] theorem State.startNext_link : (s.startNext).link = s.link := by
  unfold State.startNext; split
  · rfl
  · split
    · rfl
    · split <;> rfl
@[simp] theorem State.startNext_pending : (s.startNext).pending = s.pending := by
  unfold State.startNext; split
  · rfl
  · split
    · rfl
    · split <;> rfl

@[simp] theorem State.requestWrite_bridges (r : Requester) (b : RecordBody) : (s.requestWrite r b).bridges = s.bridges := by
  simp [State.requestWrite]
@[simp] theorem State.requestWrite_channels (r : Requester) (b : RecordBody) : (s.requestWrite r b).channels = s.channels := by
  simp [State.requestWrite]
@[simp] theorem State.requestWrite_lines (r : Requester) (b : RecordBody) : (s.requestWrite r b).lines = s.lines := by
  simp [State.requestWrite]
@[simp] theorem State.requestWrite_dt (r : Requester) (b : RecordBody) : (s.requestWrite r b).dt = s.dt := by
  simp [State.requestWrite]
@[simp] theorem State.requestWrite_vehicles (r : Requester) (b : RecordBody) : (s.requestWrite r b).vehicles = s.vehicles := by
  simp [State.requestWrite]
@[simp] theorem State.requestWrite_feed (r : Requester) (b : RecordBody) : (s.requestWrite r b).feed = s.feed := by
  simp [State.requestWrite]
@[simp] theorem State.requestWrite_windows (r : Requester) (b : RecordBody) : (s.requestWrite r b).windows = s.windows := by
  simp [State.requestWrite]
@[simp] theorem State.requestWrite_growers (r : Requester) (b : RecordBody) : (s.requestWrite r b).growers = s.growers := by
  simp [State.requestWrite]
@[simp] theorem State.requestWrite_shift (r : Requester) (b : RecordBody) : (s.requestWrite r b).shift = s.shift := by
  simp [State.requestWrite]
@[simp] theorem State.requestWrite_clock (r : Requester) (b : RecordBody) : (s.requestWrite r b).clock = s.clock := by
  simp [State.requestWrite]
@[simp] theorem State.requestWrite_link (r : Requester) (b : RecordBody) : (s.requestWrite r b).link = s.link := by
  simp [State.requestWrite]
@[simp] theorem State.requestWrite_pending (r : Requester) (b : RecordBody) : (s.requestWrite r b).pending = s.pending := by
  simp [State.requestWrite]

@[simp] theorem State.requestWindowRecord_bridges (n : Nat) : (s.requestWindowRecord n).bridges = s.bridges := by
  unfold State.requestWindowRecord; split <;> simp
@[simp] theorem State.requestWindowRecord_channels (n : Nat) : (s.requestWindowRecord n).channels = s.channels := by
  unfold State.requestWindowRecord; split <;> simp
@[simp] theorem State.requestWindowRecord_lines (n : Nat) : (s.requestWindowRecord n).lines = s.lines := by
  unfold State.requestWindowRecord; split <;> simp
@[simp] theorem State.requestWindowRecord_dt (n : Nat) : (s.requestWindowRecord n).dt = s.dt := by
  unfold State.requestWindowRecord; split <;> simp
@[simp] theorem State.requestWindowRecord_vehicles (n : Nat) : (s.requestWindowRecord n).vehicles = s.vehicles := by
  unfold State.requestWindowRecord; split <;> simp
@[simp] theorem State.requestWindowRecord_feed (n : Nat) : (s.requestWindowRecord n).feed = s.feed := by
  unfold State.requestWindowRecord; split <;> simp
@[simp] theorem State.requestWindowRecord_windows (n : Nat) : (s.requestWindowRecord n).windows = s.windows := by
  unfold State.requestWindowRecord; split <;> simp
@[simp] theorem State.requestWindowRecord_growers (n : Nat) : (s.requestWindowRecord n).growers = s.growers := by
  unfold State.requestWindowRecord; split <;> simp
@[simp] theorem State.requestWindowRecord_shift (n : Nat) : (s.requestWindowRecord n).shift = s.shift := by
  unfold State.requestWindowRecord; split <;> simp
@[simp] theorem State.requestWindowRecord_clock (n : Nat) : (s.requestWindowRecord n).clock = s.clock := by
  unfold State.requestWindowRecord; split <;> simp
@[simp] theorem State.requestWindowRecord_link (n : Nat) : (s.requestWindowRecord n).link = s.link := by
  unfold State.requestWindowRecord; split <;> simp
@[simp] theorem State.requestWindowRecord_pending (n : Nat) : (s.requestWindowRecord n).pending = s.pending := by
  unfold State.requestWindowRecord; split <;> simp

@[simp] theorem State.markVoid_bridges (n : Nat) (f : Window → Window) : (s.markVoid n f).bridges = s.bridges := rfl
@[simp] theorem State.markVoid_channels (n : Nat) (f : Window → Window) : (s.markVoid n f).channels = s.channels := rfl
@[simp] theorem State.markVoid_lines (n : Nat) (f : Window → Window) : (s.markVoid n f).lines = s.lines := rfl
@[simp] theorem State.markVoid_dt (n : Nat) (f : Window → Window) : (s.markVoid n f).dt = s.dt := rfl
@[simp] theorem State.markVoid_vehicles (n : Nat) (f : Window → Window) : (s.markVoid n f).vehicles = s.vehicles := rfl
@[simp] theorem State.markVoid_feed (n : Nat) (f : Window → Window) : (s.markVoid n f).feed = s.feed := rfl
@[simp] theorem State.markVoid_growers (n : Nat) (f : Window → Window) : (s.markVoid n f).growers = s.growers := rfl
@[simp] theorem State.markVoid_shift (n : Nat) (f : Window → Window) : (s.markVoid n f).shift = s.shift := rfl
@[simp] theorem State.markVoid_store (n : Nat) (f : Window → Window) : (s.markVoid n f).store = s.store := rfl
@[simp] theorem State.markVoid_clock (n : Nat) (f : Window → Window) : (s.markVoid n f).clock = s.clock := rfl
@[simp] theorem State.markVoid_link (n : Nat) (f : Window → Window) : (s.markVoid n f).link = s.link := rfl
@[simp] theorem State.markVoid_pending (n : Nat) (f : Window → Window) : (s.markVoid n f).pending = s.pending := rfl

@[simp] theorem State.voidWindow_bridges (n : Nat) (f : Window → Window) : (s.voidWindow n f).bridges = s.bridges := by
  simp [State.voidWindow]
@[simp] theorem State.voidWindow_channels (n : Nat) (f : Window → Window) : (s.voidWindow n f).channels = s.channels := by
  simp [State.voidWindow]
@[simp] theorem State.voidWindow_lines (n : Nat) (f : Window → Window) : (s.voidWindow n f).lines = s.lines := by
  simp [State.voidWindow]
@[simp] theorem State.voidWindow_dt (n : Nat) (f : Window → Window) : (s.voidWindow n f).dt = s.dt := by
  simp [State.voidWindow]
@[simp] theorem State.voidWindow_vehicles (n : Nat) (f : Window → Window) : (s.voidWindow n f).vehicles = s.vehicles := by
  simp [State.voidWindow]
@[simp] theorem State.voidWindow_feed (n : Nat) (f : Window → Window) : (s.voidWindow n f).feed = s.feed := by
  simp [State.voidWindow]
@[simp] theorem State.voidWindow_growers (n : Nat) (f : Window → Window) : (s.voidWindow n f).growers = s.growers := by
  simp [State.voidWindow]
@[simp] theorem State.voidWindow_shift (n : Nat) (f : Window → Window) : (s.voidWindow n f).shift = s.shift := by
  simp [State.voidWindow]
@[simp] theorem State.voidWindow_clock (n : Nat) (f : Window → Window) : (s.voidWindow n f).clock = s.clock := by
  simp [State.voidWindow]
@[simp] theorem State.voidWindow_link (n : Nat) (f : Window → Window) : (s.voidWindow n f).link = s.link := by
  simp [State.voidWindow]
@[simp] theorem State.voidWindow_pending (n : Nat) (f : Window → Window) : (s.voidWindow n f).pending = s.pending := by
  simp [State.voidWindow]

@[simp] theorem State.openWindow_bridges (k : Nat) : (s.openWindow k).bridges = s.bridges := by
  simp [State.openWindow]
@[simp] theorem State.openWindow_channels (k : Nat) : (s.openWindow k).channels = s.channels := by
  simp [State.openWindow]
@[simp] theorem State.openWindow_dt (k : Nat) : (s.openWindow k).dt = s.dt := by
  simp [State.openWindow]
@[simp] theorem State.openWindow_vehicles (k : Nat) : (s.openWindow k).vehicles = s.vehicles := by
  simp [State.openWindow]
@[simp] theorem State.openWindow_feed (k : Nat) : (s.openWindow k).feed = s.feed := by
  simp [State.openWindow]
@[simp] theorem State.openWindow_growers (k : Nat) : (s.openWindow k).growers = s.growers := by
  simp [State.openWindow]
@[simp] theorem State.openWindow_shift (k : Nat) : (s.openWindow k).shift = s.shift := by
  simp [State.openWindow]
@[simp] theorem State.openWindow_clock (k : Nat) : (s.openWindow k).clock = s.clock := by
  simp [State.openWindow]
@[simp] theorem State.openWindow_pending (k : Nat) : (s.openWindow k).pending = s.pending := by
  simp [State.openWindow]

/-- The arbiter touches only the link (R193). -/
theorem State.pump_only : s.pump = { s with link := s.pump.link } := by
  unfold State.pump
  split
  · rfl
  · split
    · rfl
    · split
      · rfl
      · split
        · rfl
        · split
          · unfold State.sendReport
            dsimp only
            split
            · rfl
            · split <;> rfl
          · rfl

@[simp] theorem State.pump_bridges : s.pump.bridges = s.bridges := by rw [s.pump_only]
@[simp] theorem State.pump_channels : s.pump.channels = s.channels := by rw [s.pump_only]
@[simp] theorem State.pump_lines : s.pump.lines = s.lines := by rw [s.pump_only]
@[simp] theorem State.pump_dt : s.pump.dt = s.dt := by rw [s.pump_only]
@[simp] theorem State.pump_vehicles : s.pump.vehicles = s.vehicles := by rw [s.pump_only]
@[simp] theorem State.pump_feed : s.pump.feed = s.feed := by rw [s.pump_only]
@[simp] theorem State.pump_windows : s.pump.windows = s.windows := by rw [s.pump_only]
@[simp] theorem State.pump_growers : s.pump.growers = s.growers := by rw [s.pump_only]
@[simp] theorem State.pump_shift : s.pump.shift = s.shift := by rw [s.pump_only]
@[simp] theorem State.pump_store : s.pump.store = s.store := by rw [s.pump_only]
@[simp] theorem State.pump_clock : s.pump.clock = s.clock := by rw [s.pump_only]
@[simp] theorem State.pump_pending : s.pump.pending = s.pending := by rw [s.pump_only]

@[simp] theorem Link.setStream_input (l : Link) (n : SlotNo) (x : Option Stream) : (l.setStream n x).input = l.input := by
  cases n <;> rfl

@[simp] theorem Link.setStream_replies (l : Link) (n : SlotNo) (x : Option Stream) :
    (l.setStream n x).replies = l.replies := by
  cases n <;> rfl

@[simp] theorem Link.setStream_flags (l : Link) (n : SlotNo) (x : Option Stream) : (l.setStream n x).flags = l.flags := by
  cases n <;> rfl

@[simp] theorem Link.setStream_notices (l : Link) (n : SlotNo) (x : Option Stream) :
    (l.setStream n x).notices = l.notices := by
  cases n <;> rfl

/-- The arbiter takes nothing from the input buffer. -/
@[simp] theorem State.pump_link_input : s.pump.link.input = s.link.input := by
  unfold State.pump State.sendReport
  dsimp only
  repeat' split
  all_goals simp

/-- The arbiter raises no flag. -/
@[simp] theorem State.pump_link_flags : s.pump.link.flags = s.link.flags := by
  unfold State.pump State.sendReport
  dsimp only
  repeat' split
  all_goals simp

/-- With an empty input buffer the end of a step is one choice of the arbiter. -/
theorem State.settleLink_of_empty (h : s.link.input = []) : s.settleLink = s.pump := by
  simp [State.settleLink, State.settle, h]

/-- A busy transmitter waits: the arbiter chooses nothing (R193). -/
theorem State.pump_of_sending (h : s.link.sending.isSome = true) : s.pump = s := by
  simp [State.pump, h]

/-- After the arbiter's choice there is nothing more for it to choose (R193). -/
theorem State.pump_pump : s.pump.pump = s.pump := by
  by_cases h : s.pump.link.sending.isSome = true
  · exact State.pump_of_sending _ h
  · have hs : s.pump = s := by
      revert h
      unfold State.pump State.sendReport
      dsimp only
      repeat' split
      all_goals simp
    rw [hs]
    exact hs

end Sys2Proof.Machine
end

