-- ==== Sys2Proof/Laws/Link.lean ====
section
/-! SUPPORT. What the port's shared operations can do: a request met at once or made to wait, and the arbiter's choices. -/
namespace Sys2Proof.Machine

open Sys2Proof

variable {s : State}

/-- A ready port takes a request to its owner at once. -/
theorem State.submit_ready (h : s.ready) (r : Request) (tag : Byte) :
    s.submit r tag = (s.answer (BitVec.ofNat 8 (requestKind r)) tag (decideRequest r tag s)).settleLink := by
  simp [State.submit, h.1, h.2]

/-- Where the port is not ready, the request's frame goes to the buffer. -/
theorem State.submit_waits (h : ¬ s.ready) (r : Request) (tag : Byte) :
    s.submit r tag = (s.receiveFrame (requestFrame r tag)).settleLink := by
  unfold State.submit
  split
  · next hc => exact absurd (by simpa [State.ready] using hc) h
  · rfl

/-- A refused request at a ready port. -/
theorem State.submit_refuse (h : s.ready) (r : Request) (tag : Byte) (code : ResultCode)
    (hd : decideRequest r tag s = .refuse code) :
    s.submit r tag = s.refusal (BitVec.ofNat 8 (requestKind r) + 0x80) tag code := by
  rw [State.submit_ready h, hd]; rfl

/-- A taken request at a ready port. -/
theorem State.submit_take (h : s.ready) (r : Request) (tag : Byte) (t : State) (content : ReplyContent)
    (hd : decideRequest r tag s = .take t content) :
    s.submit r tag = t.okReply (BitVec.ofNat 8 (requestKind r) + 0x80) tag content := by
  rw [State.submit_ready h, hd]; rfl

/-- A request command is its request's frame brought to the port. -/
theorem exec_command (r : Request) (tag : Byte) (s : State) : exec (r.command tag) s = .next (s.submit r tag) := by
  cases r <;> rfl

theorem State.okReply_of_empty (h : s.link.input = []) (kind tag : Byte) (content : ReplyContent) :
    s.okReply kind tag content = (s.placeReply ⟨kind, tag, .ok, content⟩).pump :=
  State.settleLink_of_empty _ h

/-- While a frame is on the transmitter and the reply list is full, a step's end changes nothing. -/
theorem State.settleLink_of_busy (hs : s.link.sending.isSome = true)
    (hr : Config.bufferCapacity ≤ s.link.replies.length) : s.settleLink = s := by
  unfold State.settleLink
  simp only [State.settle, State.pump_of_sending s hs]
  split
  · rfl
  · simp [Nat.not_lt.mpr hr]

/-- A turn that is given up finds no taker only where no stream is active (R193, R194). -/
theorem Link.passTurn_eq_none (l : Link) (n : SlotNo) : l.passTurn n = none ↔ l.slot1 = none ∧ l.slot2 = none := by
  cases n <;> cases h1 : l.slot1 <;> cases h2 : l.slot2 <;> simp [Link.passTurn, Link.stream, SlotNo.other, h1, h2]

/-- A turn that is given up passes with count 0 to an active stream (R194). -/
theorem Link.passTurn_eq_some {l : Link} {n : SlotNo} {t : Turn} (h : l.passTurn n = some t) :
    (l.stream t.slot).isSome = true ∧ t.count = 0 := by
  unfold Link.passTurn at h
  split at h
  · next hs => cases h; exact ⟨hs, rfl⟩
  · split at h
    · next hs => cases h; exact ⟨hs, rfl⟩
    · cases h

end Sys2Proof.Machine
end

