-- ==== Sys2Proof/Laws/Tables.lean ====
section
/-! SUPPORT. The keyed tables: what a read gives after each operation, and that every operation keeps the canonical form. -/
namespace Sys2Proof.Machine

open Sys2Proof

variable {α : Type}

/-! ## Reads after writes -/

@[simp] theorem Table.find_nil (n : Nat) : Table.find ([] : Table α) n = none := rfl

theorem Table.find_put (t : Table α) (n m : Nat) (a : α) :
    (t.put n a).find m = if m = n then some a else t.find m := by
  induction t with
  | nil =>
    by_cases h : n = m
    · simp [Table.put, Table.find, h]
    · simp [Table.put, Table.find, h, Ne.symm h]
  | cons p t ih =>
    obtain ⟨k, b⟩ := p
    unfold Table.put
    split
    · by_cases h : n = m
      · simp [Table.find, h]
      · simp [Table.find, h, Ne.symm h]
    · split
      · next h1 h2 =>
        subst h2
        by_cases h : n = m
        · simp [Table.find, h]
        · simp [Table.find, h, Ne.symm h]
      · next h1 h2 =>
        by_cases h : k = m
        · subst h
          simp [Table.find, Ne.symm h2]
        · simp [Table.find, h, ih]

@[simp] theorem Table.find_put_self (t : Table α) (n : Nat) (a : α) : (t.put n a).find n = some a := by
  simp [Table.find_put]

theorem Table.find_put_other (t : Table α) {n m : Nat} (a : α) (h : m ≠ n) : (t.put n a).find m = t.find m := by
  simp [Table.find_put, h]

theorem Table.find_modify (t : Table α) (n m : Nat) (f : α → α) :
    (t.modify n f).find m = if m = n then (t.find m).map f else t.find m := by
  induction t with
  | nil => simp [Table.modify, Table.find]
  | cons p t ih =>
    obtain ⟨k, b⟩ := p
    have hc : Table.modify ((k, b) :: t) n f = (if k = n then (k, f b) else (k, b)) :: Table.modify t n f := rfl
    rw [hc]
    by_cases hk : k = n <;> by_cases hm : k = m
    · subst hk; subst hm; simp [Table.find]
    · have : ¬ m = n := fun h => hm (hk.trans h.symm)
      simp [Table.find, hk, this] at ih ⊢
      simp [Ne.symm this, ih]
    · subst hm; simp [Table.find, hk]
    · simp [Table.find, hk, hm, ih]

@[simp] theorem Table.find_modify_self (t : Table α) (n : Nat) (f : α → α) :
    (t.modify n f).find n = (t.find n).map f := by
  simp [Table.find_modify]

theorem Table.find_modify_other (t : Table α) {n m : Nat} (f : α → α) (h : m ≠ n) :
    (t.modify n f).find m = t.find m := by
  simp [Table.find_modify, h]

theorem Table.find_drop (t : Table α) (n m : Nat) : (t.drop n).find m = if m = n then none else t.find m := by
  induction t with
  | nil => simp [Table.drop, Table.find]
  | cons p t ih =>
    obtain ⟨k, b⟩ := p
    by_cases hk : k = n
    · have hc : Table.drop ((k, b) :: t) n = Table.drop t n := by simp [Table.drop, hk]
      rw [hc, ih]
      by_cases hm : m = n
      · simp [hm]
      · simp [hm, Table.find, hk, Ne.symm hm]
    · have hc : Table.drop ((k, b) :: t) n = (k, b) :: Table.drop t n := by simp [Table.drop, hk]
      rw [hc]
      by_cases hm : k = m
      · subst hm; simp [Table.find, hk]
      · simp [Table.find, hm, ih]

theorem Table.find_mapValues (t : Table α) (f : α → α) (m : Nat) : (t.mapValues f).find m = (t.find m).map f := by
  induction t with
  | nil => rfl
  | cons p t ih =>
    obtain ⟨k, b⟩ := p
    have hc : Table.mapValues ((k, b) :: t) f = (k, f b) :: Table.mapValues t f := rfl
    rw [hc]
    by_cases hm : k = m
    · simp [Table.find, hm]
    · simp [Table.find, hm, ih]

/-! ## The canonical form -/

theorem Table.wf_nil : Table.wf ([] : Table α) := List.Pairwise.nil

theorem Table.mem_put {t : Table α} {n : Nat} {a : α} {p : Nat × α} (h : p ∈ t.put n a) : p = (n, a) ∨ p ∈ t := by
  induction t with
  | nil => simpa [Table.put] using h
  | cons q t ih =>
    obtain ⟨k, b⟩ := q
    unfold Table.put at h
    split at h
    · simpa using h
    · split at h
      · simp at h ⊢; tauto
      · simp at h ⊢
        rcases h with h | h
        · tauto
        · rcases ih h with h | h <;> tauto

/-- A write keeps the canonical form. -/
theorem Table.wf_put {t : Table α} (h : t.wf) (n : Nat) (a : α) : (t.put n a).wf := by
  induction t with
  | nil => simp [Table.put]
  | cons q t ih =>
    obtain ⟨k, b⟩ := q
    have hk : ∀ p ∈ t, k < p.1 := (List.pairwise_cons.mp h).1
    have ht : Table.wf t := (List.pairwise_cons.mp h).2
    unfold Table.put
    split
    · next hn =>
      refine List.pairwise_cons.mpr ⟨?_, h⟩
      intro p hp
      rcases List.mem_cons.mp hp with rfl | hp
      · exact hn
      · exact Nat.lt_trans hn (hk p hp)
    · split
      · next hn => subst hn; exact List.pairwise_cons.mpr ⟨hk, ht⟩
      · next h1 h2 =>
        refine List.pairwise_cons.mpr ⟨?_, ih ht⟩
        intro p hp
        rcases Table.mem_put hp with rfl | hp
        · show k < n
          omega
        · exact hk p hp

/-- Freeing a record keeps the canonical form. -/
theorem Table.wf_drop {t : Table α} (h : t.wf) (n : Nat) : (t.drop n).wf := List.Pairwise.filter _ h

/-- Changing a record keeps the canonical form. -/
theorem Table.wf_modify {t : Table α} (h : t.wf) (n : Nat) (f : α → α) : (t.modify n f).wf := by
  have hf : ∀ p : Nat × α, (if p.1 = n then (p.1, f p.2) else p).1 = p.1 := by
    intro p; split <;> rfl
  refine List.Pairwise.map _ ?_ h
  intro a b hab
  rw [hf, hf]
  exact hab

/-- Changing every record keeps the canonical form. -/
theorem Table.wf_mapValues {t : Table α} (h : t.wf) (f : α → α) : (t.mapValues f).wf :=
  List.Pairwise.map _ (fun _ _ hab => hab) h

end Sys2Proof.Machine
end

