-- ==== Sys2Proof/Laws/Specs.lean ====
section
/-! SUPPORT. One lemma for each shared operation, saying what it can do: operands, bridges, tables with one changed record, bindings, the store's judgement, the arbiter of writes, the sampler's test, presence, and the frames of a request. -/
namespace Sys2Proof.Machine

open Sys2Proof

variable {s : State}

/-! ## Operands -/

@[simp] theorem bridgeOf_code (b : BridgeNo) : bridgeOf (bridgeCode b) = some b := by cases b <;> rfl

theorem bridgeOf_bad (n : Nat) (h : n = 0 ∨ 4 < n) : bridgeOf n = none := by
  unfold bridgeOf; split <;> first | rfl | omega

theorem numberBad_ok {n : Nat} (h : 1 ≤ n) (h' : n ≤ 999999) : numberBad n = false := by
  unfold numberBad Config.numberLimit
  rw [decide_eq_false (by omega), decide_eq_false (by omega)]; rfl

theorem numberBad_bad {n : Nat} (h : n = 0 ∨ 999999 < n) : numberBad n = true := by
  unfold numberBad Config.numberLimit
  rcases h with h | h
  · rw [decide_eq_true h]; rfl
  · rw [decide_eq_true h]; simp

theorem add32_fits {a b : Nat} (h : fits32 (a + b)) : add32 a b = a + b := if_pos h

/-- A reservation's refusal, in the order of R171. -/
theorem State.reservationRefusal_none (k : Nat) (hf : s.store.state ≠ .failed) (h : s.store.reserved + k ≤ s.free) :
    s.reservationRefusal k = none := by
  unfold State.reservationRefusal
  rw [if_neg hf, if_neg (by omega)]

/-! ## Bridges and channels -/

@[simp] theorem Quad.get_map {α β : Type} (q : Quad α) (f : α → β) (b : BridgeNo) : (q.map f).get b = f (q.get b) := by
  cases b <;> rfl

@[simp] theorem Quad.get_set {α : Type} (q : Quad α) (b : BridgeNo) (a : α) : (q.set b a).get b = a := by cases b <;> rfl

theorem Quad.get_set_ne {α : Type} (q : Quad α) {b c : BridgeNo} (a : α) (h : c ≠ b) : (q.set b a).get c = q.get c := by
  cases b <;> cases c <;> first | rfl | exact absurd rfl h

/-- A changed bridge reads as changed, its lamps following it. -/
@[simp] theorem State.modBridge_bridge (b : BridgeNo) (f : Bridge → Bridge) : (s.modBridge b f).bridge b = f (s.bridge b) := by
  simp [State.modBridge, State.driveLamps, State.bridge]

theorem State.modBridge_bridge_ne {b c : BridgeNo} (f : Bridge → Bridge) (h : c ≠ b) :
    (s.modBridge b f).bridge c = s.bridge c := by
  simp [State.modBridge, State.driveLamps, State.bridge, Quad.get_set_ne _ _ h]

@[simp] theorem State.modChannel_channel (b : BridgeNo) (f : Channel → Channel) :
    (s.modChannel b f).channel b = f (s.channel b) := by
  simp [State.modChannel, State.channel]

theorem State.modChannel_channel_ne {b c : BridgeNo} (f : Channel → Channel) (h : c ≠ b) :
    (s.modChannel b f).channel c = s.channel c := by
  simp [State.modChannel, State.channel, Quad.get_set_ne _ _ h]

/-- No tare binding names a delivery (R95). -/
theorem State.tareBridge_none {n : Nat} (h : ∀ b x, (s.bridge b).binding = some x → x.pass ≠ .tare n) :
    s.tareBridge n = none := by
  unfold State.tareBridge
  rw [List.find?_eq_none]
  intro b hb
  cases hx : (s.bridge b).binding with
  | none => simp
  | some x => simpa using h b x hx

/-- A discarded binding gives back what it took (R99). -/
theorem State.discardBinding_gross {b : BridgeNo} {x : Binding} {cls g insp : Nat} {wish : Bool}
    (h : (s.bridge b).binding = some x) (hp : x.pass = .gross cls g insp wish) :
    s.discardBinding b =
      State.modGrower
        { (s.modBridge b fun y => { y with binding := none, bindTimer := none }).giveBack 2 with
          dt := { ((s.modBridge b fun y => { y with binding := none, bindTimer := none }).giveBack 2).dt with
            reserved := ((s.modBridge b fun y => { y with binding := none, bindTimer := none }).giveBack 2).dt.reserved - 1 } }
        g (fun y => { y with openCount := y.openCount - 1 }) := by
  simp only [State.discardBinding, h, hp]

theorem State.discardBinding_tare {b : BridgeNo} {x : Binding} {n : Nat} (h : (s.bridge b).binding = some x)
    (hp : x.pass = .tare n) :
    s.discardBinding b = (s.modBridge b fun y => { y with binding := none, bindTimer := none }).giveBack 1 := by
  simp only [State.discardBinding, h, hp]

/-- Where a rule sends a bridge to IDLE with no held configuration, its state is by PRESENT alone (R94). -/
theorem State.goIdle_plain {b : BridgeNo} (h : ∀ p, (s.channel b).pending = some p → p.held = false) :
    s.goIdle b = s.modBridge b fun x => { x with
      state := if x.present then .arrived else .idle, lockCause := none, pendingCause := none, entry := none } := by
  have hc : ∀ f : Bridge → Bridge, (s.modBridge b f).channel b = s.channel b := fun _ => rfl
  simp only [State.goIdle, hc]
  split
  · rfl
  · split
    · next p hp => simp [h p hp]
    · rfl

/-! ## Tables with one changed record -/

/-- In a canonical table a key names one record, so a change of it may be given by its result. -/
theorem Table.modify_const {α : Type} {t : Table α} (h : t.wf) {n : Nat} {a : α} (hf : t.find n = some a) (f : α → α) :
    t.modify n f = t.modify n (fun _ => f a) := by
  induction t with
  | nil => rfl
  | cons p t ih =>
    obtain ⟨k, b⟩ := p
    have hk := (List.pairwise_cons.mp h).1
    have hw := (List.pairwise_cons.mp h).2
    show (_ :: _) = (_ :: _)
    by_cases hkn : k = n
    · subst hkn
      have : b = a := by simpa [Table.find] using hf
      subst this
      congr 1
      apply List.map_congr_left
      intro p hp
      have := hk p hp
      simp [show ¬ p.1 = k by omega]
    · have hf' : Table.find t n = some a := by simpa [Table.find, hkn] using hf
      have := ih hw hf'
      simp only [Table.modify] at this
      simp [hkn, this]

/-! ## The store -/

/-- What judging the store does: nothing, or a change of its state with its alarm (R172). -/
theorem State.judgeStore_cases :
    s.judgeStore = s ∨
    ∃ next : StoreState, next ≠ s.store.state ∧ s.store.state ≠ .failed ∧
      (next = .low ↔ s.free < s.store.reserved + Config.lowThreshold) ∧ (next = .low ∨ next = .normal) ∧
      s.judgeStore =
        (let t := State.notify { s with store := { s.store with state := next } } (.storeAlarm next s.free s.store.reserved)
         if next = .low then t.raise .storeLow else t) := by
  by_cases hf : s.store.state = .failed
  · exact .inl (by simp [State.judgeStore, hf])
  · by_cases hl : s.free < s.store.reserved + Config.lowThreshold
    · by_cases hn : s.store.state = .low
      · exact .inl (by simp [State.judgeStore, hl, hn])
      · exact .inr ⟨.low, fun h => hn h.symm, hf, by simp [hl], .inl rfl,
          by simp [State.judgeStore, hf, hl, show ¬ StoreState.low = s.store.state from fun h => hn h.symm]; rfl⟩
    · by_cases hn : s.store.state = .normal
      · exact .inl (by simp [State.judgeStore, hl, hn])
      · exact .inr ⟨.normal, fun h => hn h.symm, hf, by simp [hl], .inr rfl,
          by simp [State.judgeStore, hf, hl, show ¬ StoreState.normal = s.store.state from fun h => hn h.symm]; rfl⟩

/-- The port starts a write only when it is idle (R174). -/
theorem State.startNext_writing (h : s.store.inFlight.isSome = true) : s.startNext = s := by
  unfold State.startNext
  by_cases hf : s.store.state = .failed
  · rw [if_pos hf]
  · rw [if_neg hf, if_pos h]

theorem State.startNext_nothing (h : s.store.choose = none) : s.startNext = s := by
  unfold State.startNext
  simp [h]

/-! ## The sampler -/

/-- No command is due while the pacing cane is below the spacing, one is outstanding, or TR is low (R55). -/
theorem State.samplerTest_quiet (h : s.windows.pacing < s.spacing ∨ s.lines.command.isSome = true ∨ s.running = false) :
    s.samplerTest = s := by
  unfold State.samplerTest
  refine if_neg ?_
  rintro ⟨h1, h2, h3⟩
  rcases h with h | h | h
  · omega
  · simp [h2] at h
  · simp [h] at h3

/-! ## Field lines -/

@[simp] theorem FieldLines.input_setInput (l : FieldLines) (line : InputLine) (i : Input) : (l.setInput line i).input line = i := by
  cases line <;> simp [FieldLines.setInput, FieldLines.input]

/-- A filtered active edge is delivered (R143, R144). -/
theorem State.holdExpired_edge {line : InputLine} (h : s.edgeDue line) :
    s.holdExpired line = ((s.levelTaken line).deliverLevel line).deliverEdge line := by
  obtain ⟨hl, hh, hn⟩ := h
  have hnew : Input.level { s.lines.input line with
      filtered := some (s.lines.input line).raw, hold := none, steady := 0 } = some true := by
    unfold Input.level at hl ⊢
    cases hf : (s.lines.input line).filtered with
    | none => simp [hf] at hl
    | some f =>
      rw [hf] at hl hn
      cases hp : (s.lines.input line).polarity <;> cases f <;> cases hr : (s.lines.input line).raw <;> simp_all
  have hs : (s.lines.input line).heldFor.isSome = true := by
    unfold Input.heldFor
    split
    · rfl
    · exact hh
  unfold State.holdExpired
  rw [if_pos hs]
  unfold State.takeLevel
  simp only [hl, hnew]
  rfl

/-- What LINE SET does to an input line (R148, R155): a new polarity of a settled line is delivered, then a level that
has waited for the new filter time is taken. -/
theorem State.lineSetInput_cases (line : InputLine) (es : List (Nat × Nat)) :
    let set := s.setInputSettings line es
    let told :=
      if (set.lines.input line).polarity ≠ (s.lines.input line).polarity ∧ (s.lines.input line).filtered.isSome = true then
        set.deliverLevel line else set
    s.lineSetInput line es = told ∨
      (s.lineSetInput line es = told.takeLevel line ∧
        ∃ ms held, settingGiven 2 es = some ms ∧ (told.lines.input line).heldFor = some held ∧ ms ≤ held) := by
  intro set told
  unfold State.lineSetInput
  cases h2 : settingGiven 2 es with
  | none => exact .inl rfl
  | some ms =>
    cases h3 : (told.lines.input line).heldFor with
    | none => left; simp only [set, told] at h3 ⊢; simp only [h3]
    | some held =>
      by_cases hm : ms ≤ held
      · right; exact ⟨by simp only [set, told] at h3 ⊢; simp only [h3, if_pos hm], ms, held, rfl, rfl, hm⟩
      · left; simp only [set, told] at h3 ⊢; simp only [h3, if_neg hm]

/-- A range flag that clears stops its timer, and its condition ceases only if it had arisen (R108, R110). -/
theorem State.setRange_clears {b : BridgeNo} {k : RangeKind} (h : (s.channel b).rangeFlag k = true) :
    let cleared := (s.modChannel b fun c => c.setRangeFlag k false).modBridge b fun x => x.setTimer k .stopped
    s.setRange b k false =
      if ((s.modChannel b fun c => c.setRangeFlag k false).bridge b).timer k = .ranOut then cleared.ceased b (rangeCause k)
      else cleared := by
  intro cleared
  unfold State.setRange
  rw [h, if_neg (by decide)]
  rfl

/-- Whatever the scan's tests find, the next good slot holds no record after them (R168, R181). -/
theorem State.testSlots_drops (n : Nat) : ∀ s : State,
    Table.find (s.testSlots n).1.store.slots
      ((s.testSlots n).1.store.nextSlot (s.testSlots n).1.store.lastSlot) = none := by
  have pattern : ∀ s : State, Table.find s.writePattern.store.slots
      (s.writePattern.store.nextSlot s.writePattern.store.lastSlot) = none := by
    intro s
    exact (Table.find_drop _ _ _).trans (if_pos rfl)
  induction n with
  | zero => exact pattern
  | succ n ih =>
    intro s
    rw [State.testSlots]
    split
    · exact ih _
    · exact pattern s

/-- A record's check covers every field but the check itself (R205). -/
theorem recordCheck_mk (sequence kind : Nat) (time : MillTime) (body : List Byte) (check : Check) :
    recordCheck ⟨sequence, kind, time, body, check⟩ = checkOf (recordCovered sequence kind time body) := rfl

/-! ## What a step's notices make of the link -/

/-- The port's end of a step, over the link that the step left. -/
theorem State.endsLink_settleLink (u : State) : u.settleLink.endsLink u.link := ⟨u, rfl, rfl⟩

/-- What a flag makes of the link depends on the link alone. -/
theorem State.raise_link_congr {s t : State} (h : s.link = t.link) (f : Flag) : (s.raise f).link = (t.raise f).link := by
  simp only [State.raise, State.setFlags, h]

/-- What a notice makes of the link depends on the link alone. -/
theorem State.notify_link_congr {s t : State} (h : s.link = t.link) (body : NoticeBody) :
    (s.notify body).link = (t.notify body).link := by
  simp only [State.notify, h]
  split
  · rfl
  · split
    · split <;> simp [State.raise, State.setFlags]
    · simp [State.raise, State.setFlags]

end Sys2Proof.Machine
end

