-- ==== Sys2Proof/Tests/Slice0.lean ====
section
/-! SUPPORT. Tests: what the well-formedness check refuses, the commands on the spec's worked figures, and for every statement a state and operands that meet its premises together. -/
namespace Sys2Proof.Tests

open Sys2Proof Sys2Proof.Machine

/-! ## Well-formedness -/

/-! Ill-formed terms, one for each check of a field of the requests (R203, R204). -/

def illFormedA : List Instr :=
  [.linkSet 0 256 4, .linkSet 0 4 256, .timeSet 0 ⟨1999, 1, 1, 0, 0, 0⟩, .timeSet 0 ⟨2256, 1, 1, 0, 0, 0⟩,
   .timeSet 0 ⟨2024, 256, 1, 0, 0, 0⟩, .timeSet 0 ⟨2024, 1, 256, 0, 0, 0⟩, .timeSet 0 ⟨2024, 1, 1, 256, 0, 0⟩,
   .timeSet 0 ⟨2024, 1, 1, 0, 256, 0⟩, .timeSet 0 ⟨2024, 1, 1, 0, 0, 256⟩, .reportStart 0 256, .reportStop 0 256]
def illFormedB : List Instr :=
  [.bind 0 256 1 1 0 0 0 1 0, .bind 0 1 256 1 0 0 0 1 0, .bind 0 1 1 65536 0 0 0 1 0, .bind 0 1 1 1 256 0 0 1 0,
   .bind 0 1 1 1 0 256 0 1 0, .bind 0 1 1 1 0 0 256 1 0, .bind 0 1 1 1 0 0 0 65536 0,
   .bind 0 1 1 1 0 0 0 1 4294967296, .unbind 0 256, .bridgeQuery 0 256, .clearFault 0 256]
def illFormedC : List Instr :=
  [.zeroNow 0 256, .tip 0 4294967296, .voidDelivery 0 4294967296, .netFromStored 0 4294967296,
   .deliveryQuery 0 4294967296, .vehicleSet 0 65536 0, .vehicleSet 0 1 256, .vehicleDrop 0 65536,
   .growerSet 0 65536 80, .growerSet 0 1 65536, .growerDrop 0 65536]
def illFormedD : List Instr :=
  [.growerQuery 0 65536, .sampleClose 0 4294967296, .sampleResult 0 4294967296 1 1, .sampleResult 0 1 65536 1,
   .sampleResult 0 1 1 65536, .sampleVoid 0 4294967296, .windowQuery 0 4294967296, .profileLoad 0 256 [],
   .profileLoad 0 1 [(256, 0)], .profileLoad 0 1 [(1, 4294967296)], .profileLoad 0 1 (List.replicate 50 (1, 0))]
def illFormedE : List Instr :=
  [.profileRead 0 256, .shiftMark 0 256, .configOpen 0 256, .configSet 0 256 [], .configSet 0 1 [(256, 0)],
   .configSet 0 1 [(1, 4294967296)], .configSet 0 1 (List.replicate 50 (1, 0)), .configApply 0 256,
   .configDiscard 0 256, .calBegin 0 256, .calZero 0 256]
def illFormedF : List Instr :=
  [.calSpan 0 256 1, .calSpan 0 1 4294967296, .calEnd 0 256 1, .calEnd 0 1 256, .calDefault 0 256,
   .lineSet 0 256 [], .lineSet 0 1 [(256, 0)], .lineSet 0 1 [(1, 65536)], .lineSet 0 1 (List.replicate 83 (1, 0)),
   .storeRead 0 4294967296, .exportMark 0 4294967296]

/-- Ill-formed terms, one for each check of an event's operands. -/
def illFormedEvents : List Instr :=
  [.unknownRequestKind 0x10 0 [], .unknownRequestKind 0x77 0 (List.replicate 249 0), .frameReceived [],
   .frameReceived [0xA4, 2, 0x10, 1, 0, 0], .frameReceived [0xA5, 1, 0x10, 1, 0], .frameReceived [0xA5, 251],
   .frameReceived [0xA5, 2, 0x10, 1, 0], .frameBadLength 2, .frameBadLength 250, .resultDeadlineExpiry 4294967296,
   .loadCellConversion .b1 (-8388609) true, .loadCellConversion .b1 8388608 true, .restart 0 60 false 0,
   .restart 3 60 false 0, .restart 0 0 false 4097]

theorem test_wellFormed_refuses_requests_a : illFormedA.all (fun i => !wellFormed i) = true := by decide
theorem test_wellFormed_refuses_requests_b : illFormedB.all (fun i => !wellFormed i) = true := by decide
theorem test_wellFormed_refuses_requests_c : illFormedC.all (fun i => !wellFormed i) = true := by decide
theorem test_wellFormed_refuses_requests_d : illFormedD.all (fun i => !wellFormed i) = true := by decide
theorem test_wellFormed_refuses_requests_e : illFormedE.all (fun i => !wellFormed i) = true := by decide
theorem test_wellFormed_refuses_requests_f : illFormedF.all (fun i => !wellFormed i) = true := by decide
theorem test_wellFormed_refuses_events : illFormedEvents.all (fun i => !wellFormed i) = true := by decide +kernel

theorem test_wellFormed_admits_the_ends :
    [Instr.linkSet 0 255 255, .timeSet 0 ⟨2255, 12, 31, 23, 59, 59⟩, .bind 0 255 255 65535 255 255 255 65535 4294967295,
      .profileLoad 0 1 (List.replicate 49 (255, 4294967295)), .lineSet 0 1 (List.replicate 82 (255, 65535)),
      .unknownRequestKind 0x77 0 (List.replicate 248 0), .frameReceived [0xA5, 2, 0x10, 1, 0, 0], .frameBadLength 1,
      .frameBadLength 251, .loadCellConversion .b1 (-8388608) true, .loadCellConversion .b1 8388607 true,
      .restart 1 60 false 4096, .restart 2 60 true 0].all wellFormed = true := by decide +kernel

/-! ## A mill in season -/

/-- A wire at rest at its settled level. -/
def wire (p : Polarity) (high : Bool) : Input := { polarity := p, filterMs := 5, raw := high, filtered := some high, hold := none, steady := 0 }

/-- A wire whose new level has stood for its filter time. -/
def due (i : Input) : Input := { i with raw := i.filtered == some false, hold := some i.filterMs }

def clock0 : MillTime := ⟨2024, 11, 5, 6, 0, 0⟩

/-- A delivery of grower 218 on vehicle 4417, gross 32,460 kg and inspection code 2 (01, Section 1.10). -/
def delivery0 : Delivery :=
  { grower := 218, vehicle := 4417, cls := 2, inspection := 2, fibre := 135, gross := ⟨32460, .b2, 10, clock0⟩
    netting := none, pendingNet := none, queueMass := 0, crushed := 0, parts := [], state := .openGross
    estimated := false, overcrush := none, folded := false, nominalPart := false, tareRejected := false }

/-- The netting of that delivery by a tare of 11,380 kg (R10). -/
def netting0 : Netting := { tare := 11380, source := .weighed, sequence := 11, trash := 632, net := 20448 }

def window0 (state : WindowState) (cane : Nat) : Window :=
  { Window.fresh 1 clock0 with state := state, cane := cane, attributed := cane, refs := 1, seen := 2 }

/-- A channel in use: 60,000 kg by 20 kg, a calibration of 0 to 4,000,000 counts for 60,000 kg. -/
def channel0 : Channel :=
  { Channel.factory with active := ⟨60000, 20, 0, 5, 20, 4⟩, cal := ⟨0, 4000000, 60000, true, .done⟩ }

def bridge0 (state : BridgeState) : Bridge :=
  { Bridge.factory 60 with state := state, zeroDue := false, lockCause := none }

def bind0 : Binding := { vehicle := 4417, pass := .gross 2 218 2 false, bindTime := clock0, life := 10 }

/-- A mill in season, with a frame on its transmitter, so that replies wait in their list; the profile of Section 1.10. -/
def mill : State :=
  { State.reset with
    bridges := ⟨bridge0 .idle, { bridge0 .bound with present := true, binding := some bind0, bindTimer := some 600000 },
      { bridge0 .locked with lockCause := some .overrange, overTimer := .ranOut }, { bridge0 .calibrating with entry := some .idle }⟩
    channels := ⟨{ channel0 with rounded := some 0, filtered := 0, period := some ⟨0, 3⟩ },
      { channel0 with rounded := some 32460, filtered := 2164000, period := some ⟨32460, 30⟩ },
      { channel0 with overrange := true, rounded := some 70000 },
      { channel0 with session := some ⟨some 0, some (4000000, 60000), none, some 1800000, false, false⟩ }⟩
    lines := { FieldLines.factory with
      e := Quad.const (wire .activeLow true), x := Quad.const (wire .activeLow true), cp := wire .activeHigh false
      jp := wire .activeHigh false, wp := wire .activeHigh false, tr := wire .activeHigh false
      ss := wire .activeHigh false, entryLamp := ⟨⟨.off, true⟩, ⟨.off, false⟩, ⟨.off, false⟩, ⟨.off, false⟩⟩ }
    dt :=
      { records := [(5, { delivery0 with netting := some netting0 }), (6, { delivery0 with vehicle := 9032, cls := 3, inspection := 5, gross := ⟨41230, .b2, 10, clock0⟩ }),
          (7, { delivery0 with netting := some netting0, queueMass := 20448, state := .queued }), (8, delivery0),
          (9, { delivery0 with netting := some netting0, queueMass := 20448, crushed := 20448, state := .crushed
                               parts := [⟨1, 20448⟩] })]
        reserved := 1, counter := 9 }
    vehicles := [(4417, ⟨2, some ⟨11380, clock0, 3⟩, 5⟩), (5000, ⟨1, none, 0⟩)]
    feed := [7]
    shift := { State.reset.shift with working := { Profile.factory with trash := [0, 10, 30, 30, 40, 60, 80, 100, 150, 200] } }
    windows :=
      { records := [(1, { window0 .closed 20448 with deadline := some 300, juice := 19000 }),
          (2, { window0 .resulted 100 with quality := some ⟨1800, 1500⟩ }), (3, window0 .opened 1000)]
        counter := 3, pacing := 0, sumCanePol := 150000, sumCaneBrix := 180000, sumCane := 100 }
    growers := [(218, { Grower.fresh 135 with openCount := 6, settled := 2, netTotal := 40000 }), (219, Grower.fresh 140)]
    store := { Store.factory with reserved := 9, lastSequence := 12, exportMark := 4, lastSlot := 11 }
    clock := { reading := clock0, isSet := true, ms := 0, minutes := 30 }
    link := { Link.factory 4 16 with
      sending := some { frame := .notice ⟨1, .voided 1 1⟩, bytes := [], mark := none } } }

/-- The mill with a bridge replaced. -/
def withBridge (b : BridgeNo) (x : Bridge) : State := { mill with bridges := mill.bridges.set b x }
/-- The mill with a channel replaced. -/
def withChannel (b : BridgeNo) (c : Channel) : State := { mill with channels := mill.channels.set b c }
/-- The mill with a window replaced. -/
def withWindow (n : Nat) (w : Window) : State :=
  { mill with windows := { mill.windows with records := mill.windows.records.put n w } }
/-- The mill with a delivery replaced. -/
def withDelivery (n : Nat) (d : Delivery) : State := { mill with dt := { mill.dt with records := mill.dt.records.put n d } }
/-- The mill with another store. -/
def withStore (x : Store) : State := { mill with store := x }
/-- The mill with another link. -/
def withLink (l : Link) : State := { mill with link := l }
/-- The mill with a line whose new level falls due. -/
def withLine (line : InputLine) : State := mill.setInput line (due (mill.lines.input line))

theorem mill_ready : mill.ready := ⟨rfl, by decide⟩
theorem mill_canonical : mill.canonical := by unfold State.canonical; decide

/-! ## One step of each command, on the spec's figures -/

/-- The state after a command. -/
def after (c : Instr) (s : State) : State :=
  match exec c s with
  | .next t => t
  | _ => s

/-- The kind, tag and code of the newest reply in the list after a command. -/
def said (c : Instr) (s : State) : Option (Byte × Byte × ResultCode) :=
  (after c s).link.replies.getLast?.map fun r => (r.kind, r.tag, r.code)

/-- The content of the newest reply. -/
def shown (c : Instr) (s : State) : Option ReplyContent := (after c s).link.replies.getLast?.map (·.content)

/-- The notices a command leaves waiting. -/
def told (c : Instr) (s : State) : List NoticeBody := (after c s).link.notices.map (·.body)

-- R199, R203: the reply has the request's kind plus 0x80 and its tag.
theorem test_status_is_answered : said (.status 7) mill = some (0x90, 7, .ok) := by decide
-- R201, R153.
theorem test_attention_clears_the_beacon :
    (after (.attention 1) (mill.raise .storeLow)).lines.al = false ∧ (mill.raise .storeLow).lines.al = true := by
  decide
-- R198: max run 1 to 64.
theorem test_linkSet_refuses_a_long_run : said (.linkSet 1 4 65) mill = some (0x92, 1, .badField) := by decide
theorem test_linkSet_takes_both : (after (.linkSet 1 2 3) mill).link.maxRun = 3 := by decide
-- R183: 2100 is no leap year, 2000 is.
theorem test_timeSet_refuses_no_leap_day : said (.timeSet 1 ⟨2100, 2, 29, 0, 0, 0⟩) mill = some (0x93, 1, .badField) := by
  decide
theorem test_timeSet_takes_a_leap_day : (after (.timeSet 1 ⟨2000, 2, 29, 0, 0, 0⟩) mill).clock.reading.day = 29 := by
  decide
-- R194, R195.
theorem test_reportStart_takes_the_turn : (after (.reportStart 1 2) mill).link.turn = some ⟨.one, 0⟩ := by decide
theorem test_reportStop_of_a_free_slot : said (.reportStop 1 2) mill = some (0x99, 1, .wrongState) := by decide
-- R96, R97; 12.2 step 1: one Delivery Table slot and two store slots more.
theorem test_bind_reserves :
    let t := after (.bind 1 1 1 4417 0 3 1 218 0) mill
    t.dt.reserved = 2 ∧ t.store.reserved = 11 ∧ (t.bridge .b1).state = .bound := by decide
-- 5.9 step 8: a bridge with ZERO_DUE is refused LOCKED.
theorem test_bind_waits_for_the_zero :
    said (.bind 1 1 1 4417 0 3 1 218 0) (withBridge .b1 { bridge0 .idle with zeroDue := true }) =
      some (0xA0, 1, .locked) := by decide
theorem test_unbind_gives_back : (after (.unbind 1 2) mill).store.reserved = 7 := by decide
theorem test_bridgeQuery_of_bridge_5 : said (.bridgeQuery 1 5) mill = some (0xA2, 1, .badField) := by decide
-- R111: OVERRANGE stands on bridge 3.
theorem test_clearFault_while_it_stands : said (.clearFault 1 3) mill = some (0xA3, 1, .locked) := by decide
theorem test_zeroNow_asks : ((after (.zeroNow 1 1) mill).bridge .b1).zeroRequest = true := by decide
-- R17: 23,717 kg from the default tare of class 3.
theorem test_tip_by_the_default_tare :
    ((after (.tip 1 6) mill).delivery? 6).map (fun d => (d.queueMass, d.estimated)) = some (23717, true) := by decide
-- 1.10 step 6: a netted delivery joins behind with its net.
theorem test_tip_of_a_netted_delivery :
    ((after (.tip 1 5) mill).delivery? 5).map (·.queueMass) = some 20448 ∧ (after (.tip 1 5) mill).feed = [7, 5] := by
  decide
theorem test_voidDelivery_only_open_gross : said (.voidDelivery 1 7) mill = some (0xA9, 1, .wrongState) := by decide
-- R10, R13: trash 632 and net 20,448.
theorem test_netFromStored_figures :
    ((after (.netFromStored 1 8) mill).delivery? 8).bind (·.pendingNet) = some ⟨11380, 632, 20448, clock0⟩ := by
  decide
theorem test_deliveryQuery_not_found : said (.deliveryQuery 1 10) mill = some (0xAB, 1, .notFound) := by decide
theorem test_vehicleSet_keeps_the_tare :
    ((after (.vehicleSet 1 4417 3) mill).vehicle? 4417).bind (·.stored) = some ⟨11380, clock0, 3⟩ := by decide
theorem test_vehicleDrop_in_use : said (.vehicleDrop 1 4417) mill = some (0xAD, 1, .inUse) := by decide
theorem test_growerSet_limits : said (.growerSet 1 219 79) mill = some (0xB0, 1, .badField) := by decide
theorem test_growerDrop_in_use : said (.growerDrop 1 218) mill = some (0xB1, 1, .inUse) := by decide
theorem test_growerQuery_shows : shown (.growerQuery 1 219) mill = some (.grower 219 (Grower.fresh 140)) := by decide
-- R49, R53: the successor opens, and the deadline is 30 + 240 minutes.
theorem test_sampleClose_sets_the_deadline :
    ((after (.sampleClose 1 3) mill).window? 3).bind (·.deadline) = some 270 ∧
      (after (.sampleClose 1 3) mill).windows.counter = 4 := by decide
-- 12.5: the sums of windows 818 and 819, and then the fallback 1789 and 1439; with 820's result 1790 and 1440.
def sums (c p b : Nat) : State :=
  { mill with windows := { mill.windows with sumCane := c, sumCanePol := p, sumCaneBrix := b } }
theorem test_sampleVoid_before_the_result :
    shown (.sampleVoid 1 1) (sums 78600 113142000 140652000) = some (.quality ⟨1789, 1439⟩) := by decide
theorem test_sampleVoid_after_the_result :
    shown (.sampleVoid 1 1) (sums 118850 171102000 212699500) = some (.quality ⟨1790, 1440⟩) := by decide
theorem test_sampleResult_adds_to_the_sums :
    let s := { sums 78600 113142000 140652000 with windows := { (sums 78600 113142000 140652000).windows with
      records := mill.windows.records.put 1 (window0 .closed 40250) } }
    (after (.sampleResult 1 1 1790 1440) s).windows.sumCanePol = 171102000 := by decide
-- R66: 3.11's yield, 38,900 of 40,000 kg, rounded half up to 973.
theorem test_windowQuery_yield : yieldOf 38900 40000 = 973 ∧ yieldOf 11200 40000 = 280 := by decide
theorem test_windowQuery_too_late : said (.windowQuery 1 1000000) mill = some (0xBB, 1, .badField) := by decide
-- 12.6 step 2: window target 35,000, field 15.
theorem test_profileLoad_sets_the_shadow : (after (.profileLoad 1 1 [(15, 35000)]) mill).shift.shadowA.target = 35000 := by
  decide
theorem test_profileRead_of_profile_3 : said (.profileRead 1 3) mill = some (0xC1, 1, .badField) := by decide
-- R162: REPEAT before any letter.
theorem test_shiftMark_repeat_first : said (.shiftMark 1 3) mill = some (0xC2, 1, .wrongState) := by decide
theorem test_shiftMark_begins : (after (.shiftMark 1 1) mill).shift.number = 2 := by decide
theorem test_seasonOpen_with_deliveries : said (.seasonOpen 1) mill = some (0xC3, 1, .wrongState) := by decide
-- R128: an all-zero record takes the defaults 20 and 4.
theorem test_configOpen_defaults :
    ((after (.configOpen 1 1) (withChannel .b1 Channel.factory)).channel .b1).pending = some ⟨⟨0, 0, 0, 0, 20, 4⟩, false⟩ := by
  decide

/-- Channel 1 with a pending record of division 10, held or not. -/
def staged (held : Bool) : State := withChannel .b1 { channel0 with pending := some ⟨⟨60000, 10, 1, 5, 20, 4⟩, held⟩ }

theorem test_configSet_held : said (.configSet 1 1 [(2, 20)]) (staged true) = some (0xC9, 1, .wrongState) := by decide
-- 6.11 step 5: a changed division makes the calibration NOMINAL, and CAL_INVALID locks the bridge.
theorem test_configApply_changes_the_division :
    let t := after (.configApply 1 1) (staged false)
    (t.channel .b1).cal.spanCounts = 4000000 ∧ (t.bridge .b1).lockCause = some .calInvalid := by decide
theorem test_configDiscard_gives_back : (after (.configDiscard 1 1) (staged true)).store.reserved = 8 := by decide
theorem test_calBegin_enters : ((after (.calBegin 1 1) mill).bridge .b1).entry = some .idle := by decide
theorem test_calZero_begins_a_step :
    (((after (.calZero 1 4) mill).channel .b4).session.bind (·.step)) = some ⟨.zero, 120000⟩ := by decide
-- R135: a tenth of 60,000 kg is the least mass.
theorem test_calSpan_needs_a_tenth :
    said (.calSpan 1 4 5999) mill = some (0xCE, 1, .badField) ∧ said (.calSpan 1 4 6000) mill = some (0xCE, 1, .ok) := by
  decide
theorem test_calEnd_ending_3 : said (.calEnd 1 4 3) mill = some (0xCF, 1, .badField) := by decide
-- 6.11: span 415,900 less zero 412,300 is 3,600, a bad COMMIT.
theorem test_calEnd_bad_commit :
    let x : Session := ⟨some 412300, some (415900, 20000), none, some 5, false, false⟩
    ((after (.calEnd 1 4 1) (withChannel .b4 { channel0 with session := some x })).channel .b4).cal.outcome = .bad := by
  decide
theorem test_calDefault_is_nominal : ((after (.calDefault 1 1) mill).channel .b1).cal.valid = false := by decide
-- R145: the CP mass steps by 10 kg.
theorem test_lineSet_pulse_mass :
    (after (.lineSet 1 9 [(3, 500)]) mill).lines.cpMass = 500 ∧ said (.lineSet 1 9 [(3, 505)]) mill = some (0xD1, 1, .badField) := by
  decide
theorem test_storeRead_not_yet_written : said (.storeRead 1 13) mill = some (0xD8, 1, .notFound) := by decide
-- R168, R170: free is 4,064 less the records above the mark.
theorem test_exportMark_frees :
    shown (.exportMark 1 12) mill = some (.exported 12 4064 9 .normal) ∧
      said (.exportMark 1 13) mill = some (0xD9, 1, .badField) := by decide
-- R189, R203: kind 0xFF and BAD_KIND.
theorem test_unknownRequestKind_reply : said (.unknownRequestKind 0x77 5 []) mill = some (0xFF, 5, .badKind) := by
  decide

/-! ## The link's events -/

/-- The worked frame of R203: SAMPLE RESULT for window 118, Brix 1840, pol 1480, tag 0x2E; and its OK reply's kind. -/
theorem test_worked_sample_result_frame :
    (let f := requestFrame (.sampleResult 118 1840 1480) 0x2E
     (frameBytes f.kind f.tag f.body).take 12) =
      [0xA5, 0x0A, 0x39, 0x2E, 0x00, 0x00, 0x00, 0x76, 0x07, 0x30, 0x05, 0xC8] := by decide
theorem test_worked_sample_result_reply : (frameBytes 0xB9 0x2E [0x00]).take 5 = [0xA5, 0x03, 0xB9, 0x2E, 0x00] := by decide

-- 11: the check of the nine ASCII bytes 123456789.
theorem test_check_of_the_digits : checkOf [0x31, 0x32, 0x33, 0x34, 0x35, 0x36, 0x37, 0x38, 0x39] = 0x29B1 := by
  decide +kernel
theorem test_frameReceived_with_a_bad_check :
    (after (.frameReceived [0xA5, 2, 0x10, 1, 0, 0]) mill).link.flags.frameError.standing = true := by decide +kernel
theorem test_frameReceived_is_answered : said (.frameReceived (frameBytes 0x10 9 [])) mill = some (0x90, 9, .ok) := by
  decide +kernel
theorem test_frameBadLength_raises : (after (.frameBadLength 251) mill).link.flags.frameError.standing = true := by
  decide
-- R187: the row brings its frame's start with it (log 6).
theorem test_frameGap_raises : (after .frameGap mill).link.flags.frameError.standing = true := by decide
-- R193: an alarm notice goes ahead of an older ordinary one.
theorem test_transmitComplete_sends_the_alarm :
    (after .transmitComplete (withLink { mill.link with
      notices := [⟨2, .voided 1 1⟩, ⟨3, .storeAlarm .low 1 1⟩] })).link.notices = [⟨2, .voided 1 1⟩] := by decide

/-! ## Lines, timers and minutes -/

theorem test_rawLevelChange_times_the_level :
    ((after (.rawLevelChange .ss true) mill).lines.input .ss).hold = some 0 := by decide

/-- 2.7's table before its pulse: window 305, and the deliveries 1,412 and 1,413 on the list. -/
def pulse0 : State :=
  let head : Delivery :=
    { delivery0 with queueMass := 20110, crushed := 19990, parts := [⟨304, 6000⟩, ⟨305, 13990⟩], state := .queued }
  { withLine .cp with
    lines := { (withLine .cp).lines with cpMass := 500 }
    dt := { records := [(1412, head), (1413, { delivery0 with queueMass := 22700, state := .queued })], reserved := 0
            counter := 1413 }
    feed := [1412, 1413]
    windows := { mill.windows with
      records := [(305, { window0 .opened 18400 with attributed := 18150, orphan := 250, refs := 6 })], counter := 305 }
    shift := { mill.shift with working := { Profile.factory with target := 41500 } } }

theorem test_pulse_across_two_deliveries :
    let t := after (.inputHoldExpiry .cp) pulse0
    t.feed = [1413] ∧ (t.delivery? 1412).map (·.parts) = some [⟨304, 6000⟩, ⟨305, 14110⟩] ∧
      (t.delivery? 1413).map (·.parts) = some [⟨305, 380⟩] ∧
      (t.window? 305).map (fun w => (w.cane, w.attributed, w.orphan, w.refs)) = some (18900, 18650, 250, 7) := by
  decide
theorem test_clearHoldExpiry_clears :
    ((after (.clearHoldExpiry .b1) (withBridge .b1
      { bridge0 .clearing with present := true, clearHold := some 0 })).bridge .b1).state = .idle := by decide
theorem test_bindingExpiry_arrives :
    ((after (.bindingExpiry .b2) mill).bridge .b2).state = .arrived ∧ told (.bindingExpiry .b2) mill = [.bindExpired .b2 bind0] := by
  decide
theorem test_rangePersistence_locks :
    ((after (.rangePersistenceExpiry .b1 .over) (withBridge .b1
      { bridge0 .idle with overTimer := .running 0 })).bridge .b1).lockCause = some .overrange := by decide
-- 3.11: one miss for window 404's third command.
theorem test_strokeConfirmExpiry_counts_a_miss :
    ((after .strokeConfirmExpiry { mill with lines := { mill.lines with command := some ⟨3, 0⟩ } }).window? 3).map (·.missed) =
      some 1 := by decide
theorem test_scPulseEnd_turns_off :
    (after .scPulseEnd { mill with lines := { mill.lines with sc := .on 0 } }).lines.sc = .off := by decide
-- 7.8: the gap ends and SC is on for 500 ms.
theorem test_scGapEnd_turns_on :
    (after .scGapEnd { mill with lines := { mill.lines with sc := .gap 0 } }).lines.sc = .on 500 := by decide
theorem test_calStepTimeout_tells :
    let x : Session := ⟨none, none, some ⟨.zero, 0⟩, some 5, false, false⟩
    told (.calStepTimeout .b4) (withChannel .b4 { channel0 with session := some x }) =
      [.calStep .b4 .zero .timedOut none] := by decide
theorem test_calIdleTimeout_abandons : ((after (.calIdleTimeout .b4) mill).bridge .b4).state = .idle := by decide
theorem test_minuteEvent_counts_stoppage : (after .minuteEvent mill).shift.acc.stoppage.value = 1 := by decide
theorem test_runningMinutesLimit_closes :
    (after .runningMinutesLimit (withWindow 3 { window0 .opened 100 with running := 120 })).windows.counter = 4 := by
  decide
-- 3.11: window 404's fallback is pol 1456 and Brix 1811.
theorem test_resultDeadlineExpiry_fallback :
    let s := sums 80450 117130100 145690300
    ((after (.resultDeadlineExpiry 1) { s with clock := { s.clock with minutes := 300 } }).window? 1).map
      (fun w => (w.state, w.expired, w.quality)) = some (.voided, true, some ⟨1811, 1456⟩) := by decide
-- 5.9 step 3: the third miss sets ZERO_DUE and the deadline is re-armed by 30 minutes.
theorem test_zeroDeadlineExpiry_is_urgent :
    let t := after (.zeroDeadlineExpiry .b1) (withBridge .b1 { bridge0 .idle with backlog := 2, zeroDeadline := 30 })
    (t.bridge .b1).zeroDue = true ∧ (t.bridge .b1).zeroDeadline = 60 := by decide

-- R155, R154: a level held for 40 ms on an unsettled line is taken for a new filter time of 20 ms, and not for 50 ms.
def unsettledFor (ms : Nat) : State := mill.setInput .ss { wire .activeHigh true with filtered := none, filterMs := 200, steady := ms }

theorem test_lineSet_takes_a_held_level :
    ((after (.lineSet 1 13 [(2, 20)]) (unsettledFor 40)).lines.input .ss).level = some true ∧
      ((after (.lineSet 1 13 [(2, 50)]) (unsettledFor 40)).lines.input .ss).level = none := by decide
-- R155, R203: polarity, filter time, pulse mass in 4 bytes, level; and the presence byte (log 20, log 38, log 39).
theorem test_lineSet_reply_bytes :
    contentBytes (.line (.input .activeHigh 5 (some 500) (some true))) = [0, 0, 5, 0, 0, 1, 0xF4, 1, 1] := by decide

-- R95, R116: the whole record of a gross binding in the table's order, its reservations last.
theorem test_binding_record_bytes :
    bindingBytes bind0 = [1, 0x11, 0x41, 2, 0, 0xDA, 2, 0, 0, 0, 0, 0, 24, 11, 5, 6, 0, 0, 10, 2, 1] := by decide
-- R204: the OK reply to BIND is 21 bytes with its result.
theorem test_bind_reply_bytes :
    bindReplyBytes .b2 bind0 = [2, 1, 0x11, 0x41, 2, 2, 0, 0, 0xDA, 0, 0, 0, 0, 24, 11, 5, 6, 0, 0, 10] := by decide
-- R200, R201: BRIDGE_LOCKED is the first flag and WINDOW_EXTENDED the fourteenth (log 39).
theorem test_attention_bytes :
    let off : FlagBits := ⟨false, false⟩
    attentionBytes ⟨⟨true, true⟩, off, off, off, off, off, off, off, off, off, off, off, off, ⟨true, false⟩⟩ =
      [0x20, 0x01, 0, 1] := by decide

/-! ## Load cells -/

/-- R122's channel: test mass 20,000 kg, zero 412,300, span 1,745,633, division 20 kg, filter code 0. -/
def cells (filter : Nat) : State :=
  { withChannel .b1 { channel0 with active := ⟨60000, 20, filter, 5, 20, 4⟩, cal := ⟨412300, 1745633, 20000, true, .done⟩ }
    with bridges := mill.bridges.set .b1 { bridge0 .idle with currentZero := 412300 } }

theorem test_conversion_reads_30000 :
    ((after (.loadCellConversion .b1 2412300 true) (cells 0)).channel .b1).rounded = some 30000 := by decide
theorem test_conversion_rounds_away_from_zero :
    ((after (.loadCellConversion .b1 412967 true) (cells 0)).channel .b1).rounded = some 20 ∧
      ((after (.loadCellConversion .b1 411633 true) (cells 0)).channel .b1).rounded = some (-20) := by decide
-- 1.10 step 2: the stable reading of 32,460 kg becomes a gross ticket.
theorem test_stableEnding_captures : ((after (.stableEnding .b2) mill).bridge .b2).state = .capture := by decide
-- 5.9: +120 kg is outside a band of 4 divisions of 20 kg.
theorem test_stableEnding_out_of_band :
    ((after (.stableEnding .b1) { withBridge .b1 { bridge0 .idle with zeroDue := true } with
      channels := mill.channels.set .b1 { channel0 with rounded := some 120, filtered := 8000, period := some ⟨120, 3⟩ } }).bridge
        .b1).lockCause = some .zeroBand := by decide
theorem test_wireOffRaise_locks : ((after (.wireOffRaise .b2) mill).bridge .b2).lockCause = some .wireOff := by decide
theorem test_wireOffClear_clears :
    ((after (.wireOffClear .b1) (withChannel .b1 { channel0 with wireOff := true })).channel .b1).wireOff = false := by
  decide

/-- Bridge 3 LOCKED with OVERRANGE on a channel whose calibration is not VALID, its over timer as given. -/
def rangeLocked (t : Persistence) : State :=
  { withChannel .b3 { channel0 with overrange := true, cal := ⟨0, 4000000, 60000, false, .none⟩ } with
    bridges := mill.bridges.set .b3 { bridge0 .locked with lockCause := some .overrange, overTimer := t } }

-- R110: a flag that clears within its 10 s ends no condition, so the cause is kept.
theorem test_range_flag_clears_early :
    (((rangeLocked (.running 4000)).setRange .b3 .over false).bridge .b3).lockCause = some .overrange ∧
      (((rangeLocked .ranOut).setRange .b3 .over false).bridge .b3).lockCause = some .calInvalid := by decide

/-! ## Settlement, the store and the resets -/

-- 4.12: delivery 1,205 on windows 117 and 118.
theorem test_settlement_of_1205 :
    let f := settleFigures [⟨117, 8150, 1780, 1420, false, 8150 * 39140 / 41200⟩,
      ⟨118, 12298, 1840, 1480, false, 12298 * 38448 / 40050⟩] 135 20448
    (f.mass, f.brix, f.pol, f.factor, f.polc, f.brixc, f.rsf) = (20448, 1816, 1456, 825, 1201, 1498, 1082) ∧
      f.payable = 2212 ∧ f.juice = 19548 ∧ f.lowQuality = false := by decide

/-- A write in flight, in slot 12 as sequence 13. -/
def written (r : Requester) (b : RecordBody) : InFlight := ⟨⟨r, b⟩, 12, ⟨13, recordKind b, clock0, [], 3⟩, false⟩

/-- The mill with a write in flight. -/
def writing (r : Requester) (b : RecordBody) : State := withStore { mill.store with inFlight := some (written r b) }

-- 9.10: a completion lowers free and reserved alike.
theorem test_writeComplete_consumes_its_slot :
    let t := after .writeComplete (writing (.delivery 8) (.void ⟨8, 218, 4417, 10, 32460⟩))
    t.store.reserved = 8 ∧ t.store.lastSequence = 13 ∧ t.delivery? 8 = none := by decide
-- 9.10 step 6: the second failing verify marks the slot bad and moves to the next.
theorem test_verifyFailure_moves_on :
    let t := after .verifyFailure (withStore { mill.store with
      inFlight := some { written (.delivery 8) (.void ⟨8, 218, 4417, 10, 32460⟩) with second := true } })
    t.store.badSlots = [12] ∧ t.store.inFlight.map (·.slot) = some 13 := by decide
-- R117, R118: a bridge with a VALID calibration comes up IDLE with ZERO_DUE.
theorem test_restart_asks_for_zeros :
    let t := after (.restart 0 0 false 0) mill
    (t.bridge .b2).state = .idle ∧ (t.bridge .b2).zeroDue = true ∧ (t.bridge .b2).binding = none := by decide
theorem test_blankStart_forgets : (after .blankStart mill).growers = [] := by decide

/-- The CAL record of bridge 4's session, and its write in flight, with a wire-off kept by the session or not. -/
def calBody4 : CalBody := { channel := .b4, replaced := channel0.cal, new := ⟨412300, 1745633, 20000, true, .done⟩ }
def committed (wireOff : Bool) : State :=
  { writing (.session .b4) (.cal calBody4) with
    channels := mill.channels.set .b4 { channel0 with
      session := some ⟨some 412300, some (1745633, 20000), none, none, true, wireOff⟩ } }

-- R138: a wire-off raised during the write locks the bridge at the completion, though its flag has cleared since.
theorem test_completion_takes_the_wire_off :
    ((committed true).channel .b4).wireOff = false ∧
      ((after .writeComplete (committed true)).bridge .b4).lockCause = some .wireOff ∧
      ((after .writeComplete (committed false)).bridge .b4).state = .idle := by decide

/-- A store whose 32 bad slots are all taken, and whose slot 12 holds a record. -/
def fullOfBad : State :=
  let last : StoredRecord := ⟨12, 1, clock0, [], 0⟩
  withStore { mill.store with
    badSlots := (List.range 32).map (· + 100)
    slots := [(11, { last with check := recordCheck last }), (12, ⟨3, 1, clock0, [], 5⟩)] }

-- R168, R181: the test pattern goes over the slot's record, though the bad-slot list is full and the store then fails.
theorem test_restart_writes_over_the_next_slot :
    fullOfBad.store.lastRecordGood = true ∧
      (Table.find (after (.restart 0 0 false 1) fullOfBad).store.slots 12).isSome = false := by decide +kernel

/-! ## For every statement, states and operands that meet its premises together -/

/-- The mill with its transmitter idle and nothing to send. -/
def quiet : State := withLink { mill.link with sending := none }

/-- The mill with a command that waits. -/
def run : State := { mill with pending := [.sampleClose 1 3, .frameGap] }

theorem mill_no_tare (n : Nat) : ∀ b x, (mill.bridge b).binding = some x → x.pass ≠ .tare n := by
  intro b x
  cases b <;> simp [mill, State.bridge, Quad.get, bridge0, Bridge.factory]
  rintro rfl
  simp [bind0]

theorem mill_oneOpenWindow : mill.oneOpenWindow := by
  refine ⟨⟨_, rfl, rfl⟩, ?_⟩
  intro n w
  simp only [State.window?, mill, Table.find]
  split
  · next h => intro hw; cases hw; subst h; exact ⟨by decide, by intro h; cases h⟩
  · split
    · next h => intro hw; cases hw; subst h; exact ⟨by decide, by intro h; cases h⟩
    · split
      · next h => intro hw; cases hw; subst h; exact ⟨by decide, fun _ => rfl⟩
      · intro hw; cases hw

/-- The sums these states reach fit their 32 bits. -/
theorem small_fits (n : Nat) (h : n ≤ 4294967295) : fits32 n := h

/-- Every pulse line's edge falls due. -/
theorem edge_due : (withLine .cp).edgeDue .cp ∧ (withLine .jp).edgeDue .jp ∧ (withLine .wp).edgeDue .wp ∧
    (withLine .tr).edgeDue .tr ∧ (withLine .ss).edgeDue .ss :=
  ⟨⟨rfl, rfl, by decide⟩, ⟨rfl, rfl, by decide⟩, ⟨rfl, rfl, by decide⟩, ⟨rfl, rfl, by decide⟩, rfl, rfl, by decide⟩

theorem meets_StepRunsTheFrontCommand : run.pending = .sampleClose 1 3 :: [.frameGap] := rfl
theorem meets_IdleStepLetsAMillisecondPass :
    mill.pending = [] ∧ mill.clock.ms < 999 ∧
      { mill with clock := { mill.clock with ms := 999 } }.pending = [] ∧
      { mill with clock := { mill.clock with ms := 999 } }.clock.ms = 999 := ⟨rfl, by decide, rfl, rfl⟩
theorem meets_EveryStepEndsInAState : run.pending = .sampleClose 1 3 :: [.frameGap] ∧ ∃ t, step run = .next t := ⟨rfl, _, rfl⟩
theorem meets_CanonicalTablesAreKept : run.canonical ∧ ∃ t, step run = .next t := ⟨mill_canonical, _, rfl⟩
theorem meets_OneWindowStaysOpen : run.oneOpenWindow ∧ ∃ t, step run = .next t := ⟨mill_oneOpenWindow, _, rfl⟩
theorem meets_PartsAddUpToTheCrushedMass : run.canonical ∧ run.partsSound ∧ ∃ t, step run = .next t := by
  refine ⟨mill_canonical, ?_, _, rfl⟩
  intro n d hd
  simp only [State.delivery?, run, mill, Table.find] at hd
  repeat' split at hd
  all_goals first
    | (cases hd; exact ⟨rfl, by decide, by decide⟩)
    | cases hd
theorem meets_BridgesLampsAndBeaconStaySound :
    run.beaconSound ∧ run.bridgesSound ∧ run.lampsSound ∧ ∃ t, step run = .next t := by
  refine ⟨rfl, ?_, ?_, _, rfl⟩
  · intro b
    cases b <;> exact ⟨by decide, by decide⟩
  · intro b
    cases b <;> exact ⟨by simp [Lamp.shows, run, mill, entryDemand, State.bridge, Quad.get, bridge0, Bridge.factory, FieldLines.factory, Quad.const], by simp [Lamp.shows, run, mill, exitDemand, State.bridge, Quad.get, bridge0, Bridge.factory, FieldLines.factory, Quad.const]⟩
theorem meets_LinkBuffersAndTransmitterStaySound :
    run.buffersSound ∧ (∃ t, step run = .next t) ∧
      (∃ t, exec .scPulseEnd quiet = .next t ∧ t.link.sending = none ∧ t.link.turn = none) ∧
      ∃ t, exec .scPulseEnd (withLink { quiet.link with turn := some ⟨.two, 0⟩ }) = .next t ∧ t.link.sending = none ∧
        t.link.turn = some ⟨.two, 0⟩ :=
  ⟨⟨by decide, by decide, by decide⟩, ⟨_, rfl⟩, ⟨_, rfl, rfl, rfl⟩, _, rfl, rfl, rfl⟩

/-- An ordinary notice by its number, and a stream part way through the windows. -/
def ordinary (n : Byte) : Notice := ⟨n, .voided 1 1⟩
def walk : Stream := { set := .windows, lastKey := some 1, count := 1, tag := 7, cut := false }

/-- Slot 1's REPORT END is on the line, and a new stream waits in its slot; slot 2 is free. -/
def refilled : State :=
  withLink { mill.link with
    sending := some ⟨.notice (ordinary 1), [], some ⟨.one, true⟩⟩, turn := some ⟨.one, 3⟩, slot1 := some walk }

theorem meets_LinkBuffersAndTransmitterStaySound_turn :
    refilled.link.turnSound ∧ (∃ t, step { refilled with pending := [.transmitComplete] } = .next t) ∧
      quiet.link.turnSound ∧ ∃ t, exec .scPulseEnd quiet = .next t ∧ t.link.sending = none :=
  ⟨⟨by decide, by intro t h; cases h; decide, by intro f m hf hm; cases hf; cases hm; exact ⟨3, rfl⟩⟩, ⟨_, rfl⟩,
    ⟨fun _ => ⟨rfl, rfl⟩, (by intro t h; cases h), (by intro f m h; cases h)⟩, _, rfl, rfl⟩

/-! ### The mill link -/

theorem meets_RequestsSurviveTheirFrames :
    wellFormed (Request.command 3 (.bind 255 255 65535 255 255 255 65535 4294967295)) = true ∧
      wellFormed (Request.command 3 (.profileLoad 1 (List.replicate 49 (255, 4294967295)))) = true := by decide
theorem meets_WholeFramesActAsTheirRequests :
    wellFormed (Request.command 3 (.sampleResult 1 1800 1500)) = true ∧ mill.ready ∧ mill.pump = mill ∧
      mill.link.receiver = .hunting := ⟨by decide, mill_ready, rfl, rfl⟩
theorem meets_BadFramesAreAnsweredOrDiscarded :
    (mill.ready ∧ wellFormed (.unknownRequestKind 0x77 4 [1, 2]) = true) ∧
    ((1 : Byte).toNat < 2 ∧ 250 < (251 : Byte).toNat ∧ mill.link.receiver = .hunting) ∧
    (withLink { mill.link with receiver := .length }).link.receiver ≠ .hunting ∧
    (wholeFrame [0xA5, 2, 0x10, 1, 0, 0] = true ∧ frameOfBytes [2, 0x10, 1, 0, 0] = none) :=
  ⟨⟨mill_ready, by decide⟩, ⟨by decide, by decide, rfl⟩, by simp [withLink], ⟨by decide, by decide +kernel⟩⟩

/-- A link with every place of its reply list and `n` of its input buffer taken. -/
def full (n : Nat) : State :=
  withLink { mill.link with replies := List.replicate 4 ⟨1, 2, .ok, .none⟩, input := List.replicate n ⟨1, 2, []⟩ }

theorem meets_RefusedAndWaitingRequestsChangeNothing :
    (mill.ready ∧ decideRequest (.tip 10) 1 mill = .refuse .notFound) ∧
    ((full 3).link.sending.isSome = true ∧ Config.bufferCapacity ≤ (full 3).link.replies.length ∧
      (full 3).link.input.length < Config.bufferCapacity) ∧
    ((full 4).link.sending.isSome = true ∧ Config.bufferCapacity ≤ (full 4).link.replies.length ∧
      ¬ (full 4).link.input.length < Config.bufferCapacity) :=
  ⟨⟨mill_ready, rfl⟩, by decide, by decide⟩

/-- An alarm notice by its number. -/
def alarm (n : Byte) : Notice := ⟨n, .storeAlarm .low 1 1⟩

/-- The quiet mill with notices that wait. -/
def noticed (l : List Notice) : State := withLink { quiet.link with notices := l }

theorem meets_NoticesTakeTheirPlaceInTheQueue :
    (noticed (List.replicate 23 (ordinary 1))).link.notices.length < 24 ∧
    (24 ≤ (noticed (List.replicate 24 (alarm 1))).link.notices.length ∧ (NoticeBody.voided 1 2).isAlarm = false ∧
      (NoticeBody.storeAlarm .low 1 2).isAlarm = true ∧
      ∀ n ∈ (noticed (List.replicate 24 (alarm 1))).link.notices, n.body.isAlarm = true) ∧
    (let older := List.replicate 2 (alarm 1)
     let newer := List.replicate 21 (ordinary 3)
     let s := noticed (older ++ ordinary 2 :: newer)
     s.link.notices = older ++ ordinary 2 :: newer ∧ 24 ≤ s.link.notices.length ∧
      (ordinary 2).body.isAlarm = false ∧ ∀ m ∈ older, m.body.isAlarm = true) :=
  ⟨by decide, ⟨by decide, by decide, by decide, by decide⟩, rfl, by decide, by decide, by decide⟩

/-- The quiet mill with a stream holding the turn. -/
def turned (count : Nat) (l : List Notice) : State :=
  withLink { quiet.link with turn := some ⟨.two, count⟩, slot2 := some walk, notices := l }

theorem meets_ArbiterChoosesInOrder :
    (∃ s : State, s.link.sending = none ∧ s.link.replies = ⟨1, 2, .ok, .none⟩ :: []) ∧
    (let s := noticed [ordinary 1, alarm 2, ordinary 3]
     s.link.sending = none ∧ s.link.replies = [] ∧ s.link.notices = [ordinary 1] ++ alarm 2 :: [ordinary 3] ∧
      (alarm 2).body.isAlarm = true ∧ ∀ m ∈ [ordinary 1], m.body.isAlarm = false) ∧
    (let s := turned 4 [ordinary 1]
     s.link.sending = none ∧ s.link.replies = [] ∧ (∀ m ∈ s.link.notices, m.body.isAlarm = false) ∧
      s.link.holdsBack = false ∧ s.link.notices = ordinary 1 :: []) ∧
    (let s := turned 3 [ordinary 1]
     s.link.sending = none ∧ s.link.replies = [] ∧ (∀ m ∈ s.link.notices, m.body.isAlarm = false) ∧
      s.link.holdsBack = true ∧ s.link.turn = some ⟨.two, 3⟩ ∧ s.link.stream .two = some walk) ∧
    (quiet.link.sending = none ∧ quiet.link.replies = [] ∧ quiet.link.notices = [] ∧ quiet.link.turn = none) :=
  ⟨⟨withLink { quiet.link with replies := [⟨1, 2, .ok, .none⟩] }, rfl, rfl⟩, ⟨rfl, rfl, rfl, rfl, by decide⟩,
    ⟨rfl, rfl, by decide, rfl, rfl⟩, ⟨rfl, rfl, by decide, rfl, rfl, rfl⟩, rfl, rfl, rfl, rfl⟩

theorem meets_ArbiterChoosesInOrder_streams :
    ({ walk with cut := true } : Stream).cut = true ∧ walk.cut = false ∧
    ((∃ y, mill.growers = [(218, y)] ++ (219, Grower.fresh 140) :: []) ∧ (∀ p ∈ [(218, ())], ¬ 218 < p.1) ∧
      218 < 219 ∧ ∀ p ∈ mill.growers, ¬ 219 < p.1) ∧
    ((∃ d newer, mill.dt.records = [] ++ (5, d) :: newer) ∧ ∀ p ∈ mill.dt.records, ¬ 9 < p.1) ∧
    ((∃ w v newer, mill.windows.records = [(1, v)] ++ (2, w) :: newer) ∧ 1 < 2 ∧ ∀ p ∈ mill.windows.records, ¬ 3 < p.1) :=
  ⟨rfl, rfl, ⟨⟨_, rfl⟩, by decide, by decide, by decide⟩, ⟨⟨_, _, rfl⟩, by decide⟩, ⟨_, _, _, rfl⟩, by decide, by decide⟩

/-- The mill with a report frame on the transmitter, under a turn. -/
def sent (m : Option TurnMark) (t : Turn) : State :=
  withLink { mill.link with
    sending := some ⟨.notice (ordinary 1), [], m⟩, turn := some t, slot1 := some walk, slot2 := some walk }

/-- R193, R194: the stream that refilled the slot of an ended one has its turn, and the transmitter is not idle. -/
theorem test_transmitComplete_turns_to_a_refilled_slot :
    (after .transmitComplete refilled).link.turn = some ⟨.one, 0⟩ ∧
      (after .transmitComplete refilled).link.sending.isSome = true := by decide

/-- R193, R194, R197: so it is when the other stream is stopped before that REPORT END has ended. -/
theorem test_reportStop_leaves_the_turn_to_a_refilled_slot :
    (after .transmitComplete (after (.reportStop 1 2)
      (withLink { refilled.link with slot2 := some walk }))).link.turn = some ⟨.one, 0⟩ := by decide

theorem meets_TransmitCompleteSettlesTheTurn :
    (refilled.link.turn = some ⟨.one, 3⟩ ∧ (refilled.link.stream SlotNo.one.other).isSome = false ∧
      (refilled.link.stream .one).isSome = true) ∧
    ((sent none ⟨.one, 1⟩).link.sending = some ⟨.notice (ordinary 1), [], none⟩) ∧
    ((sent (some ⟨.two, false⟩) ⟨.one, 1⟩).link.turn = some ⟨.one, 1⟩ ∧ SlotNo.one ≠ SlotNo.two) ∧
    ((sent (some ⟨.two, true⟩) ⟨.two, 1⟩).link.turn = some ⟨.two, 1⟩) ∧
    (let s := sent (some ⟨.two, false⟩) ⟨.two, 19⟩
     s.link.turn = some ⟨.two, 19⟩ ∧ s.link.minRun + s.link.maxRun ≤ 19 + 1) ∧
    (let s := sent (some ⟨.two, false⟩) ⟨.two, 18⟩
     s.link.turn = some ⟨.two, 18⟩ ∧ ¬ s.link.minRun + s.link.maxRun ≤ 18 + 1) :=
  ⟨⟨rfl, rfl, rfl⟩, rfl, ⟨rfl, by decide⟩, rfl, ⟨rfl, by decide⟩, rfl, by decide⟩

theorem meets_QueriesShowWhatStands :
    mill.ready ∧ (∃ d, mill.delivery? 7 = some d) ∧ (∃ w, mill.window? 3 = some w) ∧
    (let r : StoredRecord := ⟨4, 1, clock0, [], 5⟩
     let s := withStore { mill.store with slots := [(1, ⟨3, 1, clock0, [], 5⟩), (2, r)] }
     s.ready ∧ s.store.slots = [(1, ⟨3, 1, clock0, [], 5⟩)] ++ (2, r) :: [] ∧ 1 ≤ r.sequence ∧
      r.sequence ≤ s.store.lastSequence) ∧
    (mill.store.lastSequence < 13 ∧ 1 ≤ 13) :=
  ⟨mill_ready, ⟨_, rfl⟩, ⟨_, rfl⟩, ⟨mill_ready, rfl, by decide, by decide⟩, by decide, by decide⟩
theorem meets_ThePortsOwnRequestsAreTaken :
    mill.ready ∧ (16 ≤ 16 ∧ 64 ≤ 64 ∧ 16 < 17 ∧ 64 < 65) ∧ (29 ≤ daysIn 2000 2 ∧ daysIn 2100 2 < 29) ∧
      (2000 ≤ (⟨2000, 1, 1, 0, 0, 0⟩ : MillTime).year ∧ (⟨2199, 1, 1, 0, 0, 0⟩ : MillTime).year ≤ 2199) ∧
      (⟨1999, 1, 1, 0, 0, 0⟩ : MillTime).year < 2000 ∧ 2199 < (⟨2200, 1, 1, 0, 0, 0⟩ : MillTime).year :=
  ⟨mill_ready, by decide, by decide, by decide, by decide, by decide⟩
theorem meets_ReportStreamsStartAndStop :
    (mill.ready ∧ mill.link.slot1 = none ∧ mill.link.slot2 = none) ∧
    (let s := withLink { mill.link with slot2 := some walk, turn := some ⟨.two, 0⟩ }
     s.ready ∧ s.link.slot1 = none ∧ s.link.slot2.isSome = true ∧ s.link.stream .two = some walk ∧
      s.link.turn = some ⟨.two, 0⟩) ∧
    (let s := withLink { mill.link with slot1 := some walk, turn := some ⟨.one, 0⟩ }
     s.ready ∧ s.link.slot1.isSome = true ∧ s.link.slot2 = none) ∧
    (let s := sent none ⟨.one, 1⟩
     s.ready ∧ s.link.slot1.isSome = true ∧ s.link.slot2.isSome = true ∧ s.link.stream .two = some walk ∧
      ∀ t, s.link.turn = some t → t.slot ≠ .two) ∧
    (refilled.ready ∧ refilled.link.stream .one = some walk ∧
      ∃ f, refilled.link.sending = some f ∧ f.mark = some ⟨.one, true⟩) :=
  ⟨⟨mill_ready, rfl, rfl⟩, ⟨mill_ready, rfl, rfl, rfl, rfl⟩, ⟨mill_ready, rfl, rfl⟩, ⟨mill_ready, rfl, rfl, rfl,
    by intro t h; cases h; decide⟩, mill_ready, rfl, _, rfl, rfl⟩

/-! ### Bridges -/

theorem meets_BindsTakeTheirReservations :
    (mill.ready ∧ mill.vehicle? 4417 ≠ none ∧ (mill.bridge .b1).state = .idle ∧ (mill.bridge .b1).zeroDue = false ∧
      mill.grower? 218 ≠ none ∧ mill.dt.records.length + mill.dt.reserved < 96 ∧
      mill.dt.counter + mill.dt.reserved < 999999 ∧ mill.store.state ≠ .failed ∧ mill.store.reserved + 66 ≤ mill.free) ∧
    (∃ d, mill.delivery? 6 = some d ∧ d.netting = none ∧ d.pendingNet = none ∧ d.state = .openGross ∧
      (∀ c x, (mill.bridge c).binding = some x → x.pass ≠ .tare 6) ∧ 9032 = d.vehicle ∧ mill.store.reserved + 1 ≤ mill.free) :=
  ⟨⟨mill_ready, by decide, rfl, rfl, by decide, by decide, by decide, by decide, by decide⟩,
    _, rfl, rfl, rfl, rfl, mill_no_tare 6, rfl, by decide⟩

/-- Reserved slots and a store state that a BIND on bridge 1 meets. -/
def storing (x : StoreState) (reserved : Nat) : State := withStore { mill.store with state := x, reserved := reserved }

theorem meets_BindsTakeTheirReservations_refusals :
    (∀ x ∈ [BridgeState.bound, .capture, .clearing, .calibrating, .locked, .arrived],
      ((withBridge .b1 (bridge0 x)).bridge .b1).state = x) ∧
    (((withBridge .b1 { bridge0 .idle with zeroDue := true }).bridge .b1).zeroDue = true) ∧
    (mill.ready ∧ mill.grower? 7 = none ∧ mill.grower? 218 ≠ none ∧ mill.vehicle? 9032 = none ∧ mill.delivery? 77 = none) ∧
    (let s : State := { mill with dt := { mill.dt with reserved := 91 } }
     s.ready ∧ 96 ≤ s.dt.records.length + s.dt.reserved) ∧
    (let s : State := { mill with dt := { mill.dt with counter := 999998 } }
     s.ready ∧ 999999 ≤ s.dt.counter + s.dt.reserved ∧ s.dt.records.length + s.dt.reserved < 96) ∧
    ((storing .failed 9).store.state = .failed ∧ (storing .low 3991).store.state ≠ .failed ∧
      (storing .low 3991).free < (storing .low 3991).store.reserved + 66 ∧
      ¬ (storing .low 3990).free < (storing .low 3990).store.reserved + 66 ∧
      (storing .low 4056).free < (storing .low 4056).store.reserved + 1 ∧
      ¬ (storing .low 4055).free < (storing .low 4055).store.reserved + 1) ∧
    (∃ d, mill.delivery? 5 = some d ∧ d.netting.isSome = true) ∧
    (∀ x ∈ [DeliveryState.settling, .voiding],
      ((withDelivery 6 { delivery0 with state := x }).delivery? 6).map (·.state) = some x) ∧
    ((withDelivery 6 { delivery0 with pendingNet := some ⟨11380, 632, 20448, clock0⟩ }).delivery? 6).map
      (·.pendingNet.isSome) = some true :=
  ⟨by decide, rfl, ⟨mill_ready, rfl, by decide, rfl, rfl⟩, ⟨mill_ready, by decide⟩, ⟨mill_ready, by decide, by decide⟩,
    by decide, ⟨_, rfl, rfl⟩, by decide, rfl⟩

/-- Bridge 2 bound for the tare of delivery 6. -/
def tareBound : State := withBridge .b2 { bridge0 .bound with binding := some { bind0 with pass := .tare 6 }, bindTimer := some 0 }

theorem meets_BindsTakeTheirReservations_by_the_delivery :
    (∃ c x, (tareBound.bridge c).binding = some x ∧ x.pass = .tare 6) ∧
    ∃ d, mill.delivery? 6 = some d ∧ d.netting = none ∧ d.pendingNet = none ∧ d.state ≠ .settling ∧ d.state ≠ .voiding ∧
      (∀ c x, (mill.bridge c).binding = some x → x.pass ≠ .tare 6) ∧ 4417 ≠ d.vehicle ∧ 9032 = d.vehicle :=
  ⟨⟨.b2, _, rfl, rfl⟩, _, rfl, rfl, rfl, by decide, by decide, mill_no_tare 6, by decide, rfl⟩

theorem meets_UnbindGivesBackWhatTheBindingTook :
    mill.ready ∧ (mill.bridge .b1).state ≠ .bound ∧ (mill.bridge .b2).state = .bound ∧
      (mill.bridge .b2).binding = some bind0 ∧ bind0.pass = .gross 2 218 2 false ∧
      tareBound.ready ∧ (tareBound.bridge .b2).state = .bound ∧
      (tareBound.bridge .b2).binding = some { bind0 with pass := .tare 6 } :=
  ⟨mill_ready, by decide, rfl, rfl, rfl, mill_ready, rfl, rfl⟩
theorem meets_BridgesClearAndReturnToIdle :
    (let s := withBridge .b1 { bridge0 .clearing with present := true, clearHold := some 0 }
     (s.bridge .b1).clearHold.isSome = true ∧ (s.bridge .b1).state = .clearing) ∧
    (let s := withBridge .b1 { bridge0 .bound with present := true, clearHold := some 0, binding := some bind0 }
     (s.bridge .b1).clearHold.isSome = true ∧ (s.bridge .b1).state ≠ .arrived ∧ (s.bridge .b1).state ≠ .clearing ∧
      (s.bridge .b1).present = true) ∧
    ((mill.bridge .b1).present = false ∧ (mill.channel .b1).pending = none) ∧
    ((((staged true).bridge .b1).present = false) ∧ ∃ p, ((staged true).channel .b1).pending = some p ∧ p.held = true) ∧
    ((mill.bridge .b2).state = .bound ∧ (mill.bridge .b2).bindTimer.isSome = true ∧ (mill.bridge .b2).binding = some bind0) ∧
    ((tareBound.bridge .b2).state = .bound ∧ (tareBound.bridge .b2).bindTimer.isSome = true) := by decide
theorem meets_FaultsAreClearedAndZerosFallDue :
    (let s := withBridge .b1 { bridge0 .locked with lockCause := some .zeroBand }
     s.ready ∧ (s.bridge .b1).state = .locked ∧ (s.channel .b1).active ≠ ⟨0, 0, 0, 0, 0, 0⟩ ∧
      (s.channel .b1).cal.valid = true ∧ (s.channel .b1).wireOff = false ∧ (s.channel .b1).overrange = false ∧
      (s.channel .b1).underrange = false) ∧
    ((mill.bridge .b3).state = .locked ∧ (mill.channel .b3).overrange = true ∧ (mill.bridge .b1).state = .idle ∧
      (mill.bridge .b2).state ≠ .idle) :=
  ⟨⟨mill_ready, rfl, by decide, rfl, rfl, rfl, rfl⟩, rfl, rfl, rfl, by decide⟩

/-- Bridge 1 in a state, with its over timer at its end. -/
def lasting (x : BridgeState) : State :=
  withBridge .b1 { bridge0 x with
    overTimer := .running 0, binding := if x = .bound then some bind0 else none
    lockCause := if x = .locked then some .wireOff else none }

theorem meets_LastingRangeFlagsLockTheBridge :
    ∀ x ∈ [BridgeState.idle, .arrived, .clearing, .bound, .capture, .locked, .calibrating],
      ((lasting x).bridge .b1).timer .over = .running 0 ∧ ((lasting x).bridge .b1).state = x := by decide

theorem meets_LastingRangeFlagsLockTheBridge_clearing : ∀ t ∈ [Persistence.stopped, .running 4000, .ranOut],
    ((rangeLocked t).channel .b3).rangeFlag .over = true ∧ ((rangeLocked t).bridge .b3).state = .locked ∧
      ((rangeLocked t).bridge .b3).lockCause = some .overrange ∧ ((rangeLocked t).bridge .b3).timer .over = t ∧
      ((rangeLocked t).channel .b3).cal.valid = false ∧ (mill.channel .b3).cal.valid = true ∧
      (mill.bridge .b3).timer .under ≠ .ranOut := by decide

/-- Bridge 1 with its zero deadline reached. -/
def zeroDeadline (backlog : Nat) : State := withBridge .b1 { bridge0 .idle with zeroDeadline := 30, backlog := backlog }

theorem meets_FaultsAreClearedAndZerosFallDue_deadline :
    ∀ n ∈ [14, 15], ((zeroDeadline n).bridge .b1).zeroDeadline ≤ (zeroDeadline n).clock.minutes ∧
      (zeroDeadline n).clock.minutes + (zeroDeadline n).shift.working.zeroInterval ≤ Config.max32 ∧
      ((zeroDeadline n).bridge .b1).backlog = n := by decide

/-! ### Deliveries, vehicles and growers -/

theorem meets_TipsFixTheQueueMass :
    mill.ready ∧ mill.feed.length < 48 ∧ 48 ≤ ({ mill with feed := List.replicate 48 7 } : State).feed.length ∧
    (∃ d x, mill.delivery? 5 = some d ∧ d.state = .openGross ∧ d.netting = some x ∧ 0 < x.net) ∧
    (∃ d, mill.delivery? 8 = some d ∧ d.state = .openGross ∧ d.netting = none) ∧
    (let s := withDelivery 8 { delivery0 with gross := ⟨11380, .b1, 3, clock0⟩ }
     s.ready ∧ (s.storedTare 4417).map (·.kg) = some 11380 ∧ (s.delivery? 8).map (·.gross.kg) = some 11380) :=
  ⟨mill_ready, by decide, by decide, ⟨_, _, rfl, rfl, rfl, by decide⟩, ⟨_, rfl, rfl, rfl⟩, mill_ready, rfl, rfl⟩
/-- Nothing waits behind the mill's write in flight. -/
theorem writing_lone (r : Requester) (b : RecordBody) : (writing r b).loneWrite (written r b) :=
  ⟨by simp [writing, withStore, mill, Store.factory], rfl, rfl, rfl, rfl⟩

/-- The record of delivery 8's void. -/
def voidBody8 : VoidBody := ⟨8, 218, 4417, 10, 32460⟩

theorem meets_VoidsAndStoredNettingsAskForTheirRecords_completion :
    (writing (.delivery 8) (.void voidBody8)).loneWrite (written (.delivery 8) (.void voidBody8)) ∧
      (written (.delivery 8) (.void voidBody8)).request = ⟨.delivery 8, .void voidBody8⟩ := ⟨writing_lone _ _, rfl⟩
theorem meets_VoidsAndStoredNettingsAskForTheirRecords :
    ∃ d v t, mill.ready ∧ mill.delivery? 8 = some d ∧ d.pendingNet = none ∧ d.state = .openGross ∧ d.netting = none ∧
      (∀ b x, (mill.bridge b).binding = some x → x.pass ≠ .tare 8) ∧ mill.vehicle? d.vehicle = some v ∧
      v.stored = some t ∧ t.kg < d.gross.kg ∧ mill.store.state ≠ .failed ∧ mill.store.reserved + 1 ≤ mill.free :=
  ⟨_, _, _, mill_ready, rfl, rfl, rfl, rfl, mill_no_tare 8, rfl, rfl, by decide, by decide, by decide⟩
theorem mill_binds_4417 (v : Nat) (hv : v ≠ 4417) : ∀ b x, (mill.bridge b).binding = some x → x.vehicle ≠ v := by
  intro b x
  cases b <;> simp [mill, State.bridge, Quad.get, bridge0, Bridge.factory]
  rintro rfl
  simpa [bind0] using hv.symm
theorem meets_VehiclesAndGrowersAreSet :
    mill.ready ∧ (∃ y, mill.vehicle? 4417 = some y) ∧ (mill.vehicle? 7 = none ∧ mill.vehicles.length < 128) ∧
    (let s : State := { mill with vehicles := (List.range 128).map fun n => (n + 1, ⟨1, none, 0⟩) }
     128 ≤ s.vehicles.length ∧ s.vehicle? 129 = none) ∧
    ((∃ y, mill.vehicle? 5000 = some y) ∧ (∀ p ∈ mill.dt.records, p.2.vehicle ≠ 5000) ∧
      ∀ b x, (mill.bridge b).binding = some x → x.vehicle ≠ 5000) ∧
    (∃ p ∈ mill.dt.records, p.2.vehicle = 4417) ∧
    ((∃ y, mill.grower? 218 = some y) ∧ mill.grower? 7 = none ∧ mill.growers.length < 240) ∧
    (let s : State := { mill with growers := (List.range 240).map fun n => (n + 1, Grower.fresh 135) }
     240 ≤ s.growers.length ∧ s.grower? 241 = none) :=
  ⟨mill_ready, ⟨_, rfl⟩, ⟨rfl, by decide⟩, by decide +kernel,
    ⟨⟨_, rfl⟩, by decide, mill_binds_4417 5000 (by decide)⟩, by decide, ⟨⟨_, rfl⟩, rfl, by decide⟩,
    by decide +kernel⟩
theorem meets_GrowersAreDroppedAndQueried :
    mill.ready ∧ (mill.grower? 9999 = none) ∧ (∃ y, mill.grower? 218 = some y ∧ 0 < y.openCount) ∧
      ∃ y, mill.grower? 219 = some y ∧ y.openCount = 0 ∧ y.settled = 0 :=
  ⟨mill_ready, rfl, ⟨_, rfl, by decide⟩, _, rfl, rfl, rfl⟩

/-! ### Windows, the feed and the sampler -/

/-- The mill with no stroke seen in its OPEN window. -/
def strokeless : State := withWindow 3 { window0 .opened 100 with seen := 0 }

theorem meets_SampleCloseOpensTheSuccessor :
    (∃ w, mill.canonical ∧ mill.ready ∧ mill.windows.counter = 3 ∧ mill.window? 3 = some w ∧
      mill.windows.records.length < 32 ∧ mill.store.state ≠ .failed ∧ mill.store.reserved + 1 ≤ mill.free ∧ 0 < w.seen) ∧
    (∃ w, strokeless.canonical ∧ strokeless.ready ∧ strokeless.window? 3 = some w ∧ w.seen = 0 ∧
      strokeless.lines.command = none) :=
  ⟨⟨_, mill_canonical, mill_ready, rfl, rfl, by decide, by decide, by decide, by decide⟩,
    _, by unfold State.canonical; decide, mill_ready, rfl, rfl, rfl⟩
theorem meets_SampleResultsAndVoidsMakeWindowsFinal :
    mill.canonical ∧ mill.ready ∧ (mill.window? 1).map (·.state) = some .closed ∧
      (mill.window? 2).map (·.state) = some .resulted ∧ (mill.window? 3).map (·.state) = some .opened ∧
      ((withWindow 2 (window0 .voided 5)).window? 2).map (·.state) = some .voided ∧
      ({ mill with windows := { mill.windows with records := [(3, window0 .opened 5)] } } : State).window? 2 = none ∧
      mill.windows.counter < 4 := ⟨mill_canonical, mill_ready, rfl, rfl, rfl, rfl, rfl, by decide⟩

/-- The mill at the minute of window 1's deadline. -/
def late : State := { mill with clock := { mill.clock with minutes := 300 } }
/-- The mill with the running minutes of its OPEN window at the maximum, and the store in a state. -/
def ran (extended : Bool) (x : StoreState) : State :=
  { withWindow 3 { window0 .opened 100 with running := 120, extended := extended } with store := { mill.store with state := x } }

theorem meets_WindowLimitsCloseExtendOrVoid :
    (∃ w, late.canonical ∧ late.window? 1 = some w ∧ w.state = .closed ∧ w.deadline = some 300 ∧ 300 ≤ late.clock.minutes) ∧
    (∃ w, mill.window? 1 = some w ∧ w.deadline = some 300 ∧ mill.clock.minutes < 300) ∧
    (∃ w, mill.window? 2 = some w ∧ w.state ≠ .closed) ∧
    (∃ w, (ran false .normal).window? 3 = some w ∧ (ran false .normal).shift.working.maxRunning ≤ w.running ∧
      (ran false .normal).canOpen = true) ∧
    (∃ w, (ran false .failed).window? 3 = some w ∧ (ran false .failed).canOpen = false ∧ w.extended = false) ∧
    (∃ w, (ran true .failed).window? 3 = some w ∧ (ran true .failed).canOpen = false ∧ w.extended = true) :=
  ⟨⟨_, mill_canonical, rfl, rfl, rfl, by decide⟩, ⟨_, rfl, rfl, by decide⟩, ⟨_, rfl, by decide⟩,
    ⟨_, rfl, by decide, by decide⟩, ⟨_, rfl, by decide, rfl⟩, _, rfl, by decide, rfl⟩

/-- The mill at an edge of CP, with parts on the head delivery. -/
def cane (p : List Part) : State :=
  { withDelivery 7 { delivery0 with netting := some netting0, queueMass := 20448, state := .queued, parts := p } with
    lines := (withLine .cp).lines }

/-- Seven parts. -/
def seven : List Part := List.replicate 7 ⟨1, 1⟩

theorem cane_meets (p : List Part) : (cane p).canonical ∧ (cane p).edgeDue .cp ∧ (cane p).feed = 7 :: [] ∧
    ∃ d w, (cane p).delivery? 7 = some d ∧ d.parts = p ∧ d.crushed + (cane p).lines.cpMass < d.queueMass ∧
      0 < (cane p).lines.cpMass ∧ (cane p).window? (cane p).windows.counter = some w ∧ w.extended = false ∧
      fits32 (w.cane + (cane p).lines.cpMass) ∧ fits32 (w.attributed + (cane p).lines.cpMass) ∧
      fits32 (w.folded + (cane p).lines.cpMass) ∧ fits32 ((cane p).windows.pacing + (cane p).lines.cpMass) ∧
      (cane p).windows.pacing + (cane p).lines.cpMass <
        (cane p).shift.working.target / (cane p).shift.working.strokes ∧
      w.cane + (cane p).lines.cpMass < (cane p).shift.working.target :=
  ⟨⟨Table.wf_put mill_canonical.1 7 _, mill_canonical.2⟩, edge_due.1, rfl, _, _, rfl, rfl, (by decide : 50 < 20448), (by decide : 0 < 50), rfl, rfl,
    small_fits 1050 (by decide), small_fits 1050 (by decide), small_fits 50 (by decide), small_fits 50 (by decide),
    (by decide : 0 + 50 < 40000 / 8), (by decide : 1050 < 40000)⟩
/-- The mill at an edge of CP with 20,448 kg less `left` crushed of the head delivery, the feed behind it, and the cane its
OPEN window holds. -/
def finishing (left : Nat) (rest : List Nat) (had : Nat) : State :=
  { withDelivery 7 { delivery0 with
      netting := some netting0, queueMass := 20448, crushed := 20448 - left, state := .queued
      parts := [⟨1, 5⟩, ⟨3, 20443 - left⟩] } with
    lines := (withLine .cp).lines, feed := 7 :: rest, windows := (withWindow 3 (window0 .opened had)).windows }

-- R35, R37: 20 kg of 50 finish the delivery, and 30 kg are orphan mass.
theorem test_pulse_finishes_the_last_delivery :
    let t := after (.inputHoldExpiry .cp) (finishing 20 [] 1000)
    t.feed = [] ∧ (t.window? 3).map (fun w => (w.cane, w.attributed, w.orphan)) = some (1050, 1020, 30) ∧
      t.link.flags.orphanCane.standing = true := by decide
theorem finishing_meets (left : Nat) (rest : List Nat) (had : Nat) (hl : left ≤ 50) (hh : had ≤ 40000)
    (hr : left = 50 ∨ rest = []) (hn : 7 ∉ rest) :
    (finishing left rest had).canonical ∧ (finishing left rest had).edgeDue .cp ∧
      (finishing left rest had).feed = 7 :: rest ∧ 7 ∉ rest ∧
    ∃ d w, (finishing left rest had).delivery? 7 = some d ∧ d.parts = [⟨1, 5⟩] ++ [⟨3, 20443 - left⟩] ∧
      d.queueMass - d.crushed ≤ (finishing left rest had).lines.cpMass ∧
      (finishing left rest had).window? 3 = some w ∧ w.state = .opened ∧ w.extended = false ∧ w.cane = had ∧
      (50 - (d.queueMass - d.crushed) = 0 ∨ rest = []) ∧ fits32 (w.cane + 50) ∧
      fits32 (w.attributed + (d.queueMass - d.crushed)) ∧ fits32 (w.orphan + (50 - (d.queueMass - d.crushed))) ∧
      0 < (finishing left rest had).lines.cpMass ∧ fits32 ((finishing left rest had).windows.pacing + 50) ∧
      (finishing left rest had).windows.pacing + 50 <
        (finishing left rest had).shift.working.target / (finishing left rest had).shift.working.strokes :=
  ⟨⟨Table.wf_put mill_canonical.1 7 _, mill_canonical.2.1, Table.wf_put mill_canonical.2.2.1 3 _, mill_canonical.2.2.2⟩,
    edge_due.1, rfl, hn, _, _, rfl, rfl, (by simp; omega : 20448 - (20448 - left) ≤ 50), rfl, rfl, rfl, rfl,
    hr.imp (fun h => by simp [h]) id, small_fits _ (by simp [window0, Window.fresh]; omega),
    small_fits _ (by simp [window0, Window.fresh]; omega), small_fits _ (by simp [window0, Window.fresh]; omega), (by decide : 0 < 50), small_fits 50 (by decide),
    (by decide : 0 + 50 < 40000 / 8)⟩
theorem meets_CanePulsesDebitTheHeadDelivery :
    ([⟨1, 5⟩, ⟨3, 2⟩] : List Part) = [⟨1, 5⟩] ++ [⟨(cane []).windows.counter, 2⟩] ∧
    (([⟨1, 5⟩] : List Part).length < 8 ∧ ∀ q, ([⟨1, 5⟩] : List Part).getLast? = some q → q.window ≠ 3) ∧
    (seven ++ [⟨2, 4⟩] = seven ++ [⟨2, 4⟩] ∧ seven.length = 7 ∧ 2 ≠ (cane []).windows.counter) ∧
    (∀ had ∈ [39949, 39950], (finishing 50 [5] had).edgeDue .cp ∧ (finishing 20 [] had).edgeDue .cp ∧
      (finishing 0 [] had).edgeDue .cp) ∧
    (mill.shift.working.target ≤ 39950 + mill.lines.cpMass ∧ ¬ mill.shift.working.target ≤ 39949 + mill.lines.cpMass) :=
  ⟨rfl, ⟨by decide, by intro q h; cases h; decide⟩, ⟨rfl, rfl, by decide⟩,
    fun had h => by
      have hh : had ≤ 40000 := by fin_cases h <;> decide
      exact ⟨(finishing_meets 50 [5] had (by decide) hh (.inl rfl) (by decide)).2.1,
        (finishing_meets 20 [] had (by decide) hh (.inr rfl) (by decide)).2.1,
        (finishing_meets 0 [] had (by decide) hh (.inr rfl) (by decide)).2.1⟩,
    by decide, by decide⟩
theorem meets_CanePulsesAreAccountedForInFull :
    ∃ w, pulse0.edgeDue .cp ∧ pulse0.window? pulse0.windows.counter = some w ∧ w.balanced ∧
      fits32 (w.cane + pulse0.lines.cpMass) ∧ pulse0.link.input = [] :=
  ⟨_, edge_due.1, rfl, rfl, small_fits 18900 (by decide), rfl⟩
theorem meets_JuiceAndWaterPulsesAreCounted :
    ∃ w, mill.window? 3 = some w ∧ (withLine .jp).canonical ∧ (withLine .jp).edgeDue .jp ∧ (withLine .wp).edgeDue .wp ∧
      fits32 (w.juice + mill.lines.jpMass) ∧ fits32 (w.water + mill.lines.wpMass) :=
  ⟨_, rfl, mill_canonical, edge_due.2.1, edge_due.2.2.1, small_fits 10 (by decide), small_fits 10 (by decide)⟩

/-- TR rising with a stroke due, and SC in a phase. -/
def striking (x : ScLine) : State :=
  { withLine .tr with windows := { mill.windows with pacing := 5000 }, lines := { (withLine .tr).lines with sc := x } }

theorem meets_SamplerCommandsAreIssuedAndPulsed :
    (∃ w, (striking (.on 3)).canonical ∧ (striking (.on 3)).edgeDue .tr ∧ (striking (.on 3)).window? 3 = some w ∧
      (striking (.on 3)).lines.command = none ∧
      (striking (.on 3)).shift.working.target / (striking (.on 3)).shift.working.strokes ≤ (striking (.on 3)).windows.pacing ∧
      fits32 (w.commanded + 1)) ∧
    (striking (.on 3)).lines.sc = .on 3 ∧ (striking (.gap 3)).lines.sc = .gap 3 :=
  ⟨⟨_, mill_canonical, edge_due.2.2.2.1, rfl, rfl, by decide, small_fits 1 (by decide)⟩, rfl, rfl⟩

/-- An edge of SS with a command outstanding for window 1, which stands as given. -/
def stroked (n : Nat) (w : Window) : State :=
  { withWindow 1 w with lines := { (withLine .ss).lines with command := some ⟨n, 0⟩ } }

theorem stroked_meets (n : Nat) (w : Window) : (stroked n w).canonical ∧ (stroked n w).edgeDue .ss ∧
    (stroked n w).lines.command = some ⟨n, 0⟩ ∧ (stroked n w).window? 1 = some w :=
  ⟨⟨mill_canonical.1, mill_canonical.2.1, Table.wf_put mill_canonical.2.2.1 1 _, mill_canonical.2.2.2⟩,
    edge_due.2.2.2.2, rfl, rfl⟩
theorem meets_StrokesAreCountedToTheirWindow :
    ((withLine .ss).canonical ∧ (withLine .ss).edgeDue .ss ∧ (withLine .ss).lines.command = none) ∧
    (∀ x ∈ [WindowState.opened, .closed, .resulted, .voided], (window0 x 5).state = x ∧
      (window0 x 5).seen + 1 ≤ Config.max32 ∧ (window0 x 5).missed + 1 ≤ Config.max32) ∧
    ({ window0 .closed 5 with seen := 0 } : Window).seen = 0 ∧ (stroked 77 (window0 .closed 5)).window? 77 = none :=
  ⟨⟨mill_canonical, edge_due.2.2.2.2, rfl⟩, by decide, rfl, rfl⟩

/-! ### Field lines -/

/-- The mill as its lines come up, unsettled. -/
def unsettled : State :=
  { mill with lines := { mill.lines with
      e := Quad.const { wire .activeLow false with filtered := none }, tr := { wire .activeHigh false with filtered := none }
      cp := { wire .activeHigh true with filtered := none } } }

theorem meets_FilteredLevelsFollowTheWire :
    ((mill.lines.input .cp).raw = false) ∧
    ((mill.lines.input .cp).raw ≠ true ∧ (mill.lines.input .cp).filtered = some (!true)) ∧
    ((unsettled.lines.input .tr).raw ≠ true ∧ (unsettled.lines.input .tr).filtered = none) ∧
    (((withLine .cp).lines.input .cp).raw ≠ false ∧ ((withLine .cp).lines.input .cp).filtered = some false) ∧
    (((unsettled.lines.input .cp).filtered = none) ∧
      (let s := mill.setInput .cp (due (wire .activeHigh true))
       (s.lines.input .cp).hold.isSome = true ∧ (s.lines.input .cp).level = some true)) ∧
    ((unsettled.lines.input (.e .b1)).filtered = none ∧ ((withLine (.x .b1)).lines.input (.x .b1)).hold.isSome = true) ∧
    ((unsettled.levelTaken .tr).lines.tr.level = some false ∧ unsettled.lines.tr.filtered = none) ∧
    ((mill.lines.input .tr).filtered.isSome = true ∧ (mill.lines.input .tr).hold = none) := by decide
theorem meets_PresenceIsJudgedByReadingAndBeams :
    (let s := mill.setInput (.e .b1) (wire .activeLow false)
     (s.lines.e.get .b1).level = some true ∧ (s.bridge .b1).present = false) ∧
    ((mill.channel .b2).rounded = some 32460 ∧ (mill.bridge .b2).present = true) ∧
    (let s := withChannel .b2 { channel0 with rounded := some 399 }
     (s.channel .b2).rounded = some 399 ∧ (s.channel .b2).active.threshold * (s.channel .b2).active.division = 400 ∧
      (s.lines.e.get .b2).level = some false ∧ (s.lines.x.get .b2).level = some false ∧
      (s.bridge .b2).present = true ∧ (s.bridge .b2).clearHold = none) := by decide
theorem meets_LinesAreReadAndSet :
    mill.ready ∧ lineOf 1 = some (.input (.e .b1)) ∧ lineOf 23 = some .al ∧ 500 % 10 = 0 ∧
    (∀ b, entryDemand (mill.bridge .b3) = .safe ∧ lineOf (13 + bridgeCode b) = some (.entryLamp b) ∧
      lineOf (17 + bridgeCode b) = some (.exitLamp b)) :=
  ⟨mill_ready, rfl, rfl, rfl, by intro b; cases b <;> exact ⟨rfl, rfl, rfl⟩⟩
theorem meets_LinesAreReadAndSet_polarity :
    (lineOf 1 = some (.input (.e .b1)) ∧ Polarity.activeHigh ≠ (mill.lines.input (.e .b1)).polarity ∧
      (mill.lines.input (.e .b1)).filtered ≠ none) ∧
    (lineOf 12 = some (.input .tr) ∧ Polarity.activeLow ≠ (mill.lines.input .tr).polarity ∧
      (mill.lines.input .tr).filtered ≠ none) ∧
    (lineOf 9 = some (.input .cp) ∧ Polarity.activeLow ≠ (mill.lines.input .cp).polarity) ∧
    (unsettled.lines.input .tr).filtered = none := by decide
theorem meets_LinesAreReadAndSet_filter :
    lineOf 13 = some (.input .ss) ∧ ((unsettledFor 20).lines.input .ss).filtered = none ∧
    (20 ≤ ((unsettledFor 20).lines.input .ss).steady ∧ ((unsettledFor 19).lines.input .ss).steady < 20) ∧
    ((mill.lines.input .ss).filtered ≠ none ∧ (mill.lines.input .ss).hold = none) ∧
    (((withLine .ss).lines.input .ss).hold = some 5 ∧ 5 ≤ 5 ∧ 5 < 10) ∧
    (settingOk (.input .ss) 3 10 = false ∧ settingOk (.input .cp) 3 505 = false ∧ settingOk (.entryLamp .b1) 4 3 = false ∧
      settingOk .al 1 0 = false) := by decide

/-! ### Profiles and shifts -/

/-- A load that keeps the cross-field conditions at their ends, and one that breaks one. -/
def goodLoad : List (Nat × Nat) := [(16, 4), (17, 4), (1, 5000), (14, 250)]
def badLoad : List (Nat × Nat) := [(17, 9)]

theorem meets_ProfilesAreLoadedIntoTheirShadow :
    mill.ready ∧ (1 ≤ goodLoad.length ∧ goodLoad.length ≤ 26 ∧ (goodLoad.map (·.1)).Nodup ∧
      ∀ e ∈ goodLoad, profileFieldOk e.1 e.2 = true) ∧
    ((goodLoad.foldl Profile.setField mill.shift.shadowA).minStrokes ≤ (goodLoad.foldl Profile.setField mill.shift.shadowA).strokes ∧
      (goodLoad.foldl Profile.setField mill.shift.shadowA).defaultPol ≤ (goodLoad.foldl Profile.setField mill.shift.shadowA).defaultBrix) ∧
    ((badLoad.map (·.1)).Nodup ∧ (∀ e ∈ badLoad, profileFieldOk e.1 e.2 = true) ∧
      (badLoad.foldl Profile.setField mill.shift.shadowA).strokes < (badLoad.foldl Profile.setField mill.shift.shadowA).minStrokes) :=
  ⟨mill_ready, by decide, by decide, by decide⟩
theorem meets_ShiftMarksBeginANewShift :
    mill.ready ∧ mill.shift.owed = none ∧ mill.store.state ≠ .failed ∧ mill.store.reserved + 1 ≤ mill.free ∧
      fits32 (mill.shift.number + 1) ∧
      ({ mill with shift := { mill.shift with lastLetter := some .b } } : State).shift.lastLetter = some .b :=
  ⟨mill_ready, rfl, by decide, by decide, small_fits 2 (by decide), rfl⟩

/-- The SHIFT record of the mill's shift, and the SEASON record of its season. -/
def shiftBody0 : ShiftBody :=
  { number := 1, letter := none, start := clock0, finish := clock0, acc := mill.shift.acc, window := 3, extended := false }
def seasonBody0 : SeasonBody :=
  { season := 1, lastDelivery := 9, lastWindow := 3, number := 1, letter := none, start := clock0, finish := clock0, acc := mill.shift.acc }

theorem meets_ShiftMarksBeginANewShift_completion :
    (writing .shiftUnit (.shift shiftBody0)).loneWrite (written .shiftUnit (.shift shiftBody0)) ∧
      (written .shiftUnit (.shift shiftBody0)).request = ⟨.shiftUnit, .shift shiftBody0⟩ := ⟨writing_lone _ _, rfl⟩
theorem meets_SeasonsOpenWithCleanAccounts_completion :
    (writing .shiftUnit (.season seasonBody0)).loneWrite (written .shiftUnit (.season seasonBody0)) ∧
      (written .shiftUnit (.season seasonBody0)).request = ⟨.shiftUnit, .season seasonBody0⟩ := ⟨writing_lone _ _, rfl⟩

/-- The mill at a season's end. -/
def seasonEnd : State :=
  { mill with
    dt := ⟨[], 0, 9⟩, feed := [], channels := Quad.const channel0
    bridges := ⟨bridge0 .idle, bridge0 .idle, mill.bridges.q3, bridge0 .idle⟩
    store := { mill.store with lastSequence := 12, exportMark := 12 }
    link := { mill.link with slot1 := some walk, turn := some ⟨.one, 1⟩ } }

theorem meets_SeasonsOpenWithCleanAccounts :
    seasonEnd.ready ∧ seasonEnd.store.state ≠ .failed ∧ seasonEnd.store.exportMark = seasonEnd.store.lastSequence ∧
      seasonEnd.store.anyRequest = false ∧ seasonEnd.shift.owed = none ∧ (∀ b, (seasonEnd.channel b).owed = none) ∧
      seasonEnd.dt.records = [] ∧ (∀ b, (seasonEnd.bridge b).binding = none) ∧
      (∀ b, (seasonEnd.channel b).pending = none) ∧ (∀ b, (seasonEnd.channel b).session = none) ∧
      seasonEnd.store.reserved + 1 ≤ seasonEnd.free ∧ fits32 (seasonEnd.shift.season + 1) ∧
      seasonEnd.link.sending.isSome = true :=
  ⟨mill_ready, by decide, rfl, rfl, rfl, by intro b; cases b <;> rfl, rfl, by intro b; cases b <;> rfl,
    by intro b; cases b <;> rfl, by intro b; cases b <;> rfl, by decide, small_fits 2 (by decide), rfl⟩

/-! ### Load-cell channels -/

theorem meets_ConfigurationsAreStaged :
    (mill.ready ∧ (mill.channel .b1).pending = none ∧ (mill.bridge .b1).state ≠ .calibrating) ∧
    ((mill.bridge .b4).state = .calibrating) ∧ ((staged true).ready ∧ (staged false).ready) ∧
    (∀ h ∈ [true, false], ∃ p, ((staged h).channel .b1).pending = some p ∧ p.held = h) ∧
    (∃ e ∈ [(1, 20000), (3, 8)], configFieldOk e.1 e.2 = false) ∧
    (([(1, 20000), (3, 7)] : List (Nat × Nat)).map (·.1)).Nodup ∧
    (∀ e ∈ [(1, 20000), (3, 7)], configFieldOk e.1 e.2 = true) :=
  ⟨⟨mill_ready, rfl, by decide⟩, rfl, ⟨mill_ready, mill_ready⟩, by intro h _; exact ⟨_, rfl, rfl⟩, by decide, by decide, by decide⟩

/-- A pending record on a bridge that is not idle. -/
def stagedBound : State := withChannel .b2 { channel0 with pending := some ⟨⟨60000, 10, 1, 5, 20, 4⟩, false⟩ }

theorem meets_ConfigurationsAreApplied :
    (∃ p, (staged false).ready ∧ ((staged false).channel .b1).pending = some p ∧ p.held = false ∧
      ((staged false).bridge .b1).state = .idle ∧ ((staged false).channel .b1).owed = none ∧ p.config.complete = true ∧
      (staged false).store.state ≠ .failed ∧ (staged false).store.reserved + 1 ≤ (staged false).free ∧
      p.config ≠ ⟨0, 0, 0, 0, 0, 0⟩) ∧
    (∃ p, stagedBound.ready ∧ (stagedBound.channel .b2).pending = some p ∧ p.held = false ∧
      (stagedBound.bridge .b2).state = .bound) ∧
    (∃ p, (State.reset.modChannel .b1 fun c => { c with pending := some ⟨⟨60000, 20, 1, 5, 20, 4⟩, true⟩ }).channel .b1 = p ∧
      p.active = ⟨0, 0, 0, 0, 0, 0⟩ ∧ (State.reset.bridge .b1).state = .locked ∧
      (State.reset.bridge .b1).lockCause = some .unconfigured) :=
  ⟨⟨_, mill_ready, rfl, rfl, rfl, rfl, rfl, by decide, by decide, by decide⟩, ⟨_, mill_ready, rfl, rfl, rfl⟩,
    _, rfl, rfl, rfl, rfl⟩
/-- The CONFIG record of an application on channel 1. -/
def configBody1 : ConfigBody := { channel := .b1, madeNominal := false, new := channel0.active, replaced := channel0.active }

theorem meets_ConfigurationsAreApplied_completion :
    (writing (.channel .b1) (.config configBody1)).loneWrite (written (.channel .b1) (.config configBody1)) ∧
      (written (.channel .b1) (.config configBody1)).request = ⟨.channel .b1, .config configBody1⟩ := ⟨writing_lone _ _, rfl⟩
theorem meets_CalibrationSessionsBeginAndStep :
    (mill.ready ∧ (mill.channel .b1).owed = none ∧ (mill.channel .b1).pending = none ∧ mill.store.state ≠ .failed ∧
      mill.store.reserved + 1 ≤ mill.free ∧ (mill.bridge .b1).state = .idle) ∧
    ((mill.bridge .b3).state = .locked ∧ (mill.bridge .b3).lockCause = some .overrange) ∧
    (((withBridge .b3 { bridge0 .locked with lockCause := some .zeroBand }).bridge .b3).lockCause = some .zeroBand) ∧
    ((mill.bridge .b2).state ≠ .idle ∧ (mill.bridge .b2).state ≠ .locked) ∧
    (∃ x, (mill.channel .b4).session = some x ∧ x.step = none ∧ x.committed = false ∧
      (mill.channel .b4).active.capacity ≤ 6000 * 10 ∧ 5999 * 10 < (mill.channel .b4).active.capacity ∧
      60000 ≤ (mill.channel .b4).active.capacity) ∧
    (∃ x, ((withChannel .b4 { channel0 with session := some ⟨none, none, some ⟨.zero, 5⟩, some 5, false, false⟩ }).channel .b4).session =
      some x ∧ x.step.isSome = true) :=
  ⟨⟨mill_ready, rfl, rfl, by decide, by decide, rfl⟩, ⟨rfl, rfl⟩, rfl, ⟨by decide, by decide⟩,
    ⟨_, rfl, rfl, rfl, by decide, by decide, by decide⟩, _, rfl, rfl⟩

/-- A session whose span counts exceed its zero counts by 9,999. -/
def narrow : State := withChannel .b4 { channel0 with session := some ⟨some 0, some (9999, 6000), none, some 4, false, false⟩ }
/-- A session with a span step in progress. -/
def stepping : State := withChannel .b4 { channel0 with session := some ⟨some 0, none, some ⟨.span 6000, 0⟩, some 4, false, false⟩ }

theorem meets_CalibrationSessionsEnd :
    (∃ x, mill.ready ∧ (mill.channel .b4).session = some x ∧ x.committed = false ∧ x.step = none ∧ x.zeroResult = some 0 ∧
      x.spanResult = some (4000000, 60000) ∧ (10000 : Int) ≤ 4000000 - 0) ∧
    (∃ x, narrow.ready ∧ (narrow.channel .b4).session = some x ∧ x.spanResult = some (9999, 6000) ∧ (9999 - 0 : Int) < 10000) ∧
    (∃ x, stepping.ready ∧ (stepping.channel .b4).session = some x ∧ x.step = some ⟨.span 6000, 0⟩ ∧ x.idle.isSome = true) :=
  ⟨⟨_, mill_ready, rfl, rfl, rfl, rfl, rfl, by decide⟩, ⟨_, mill_ready, rfl, rfl, by decide⟩, _, mill_ready, rfl, rfl, rfl⟩
theorem meets_CalibrationSessionsEnd_completion : ∀ w ∈ [true, false],
    (committed w).link.input = [] ∧ (committed w).loneWrite (written (.session .b4) (.cal calBody4)) ∧
      (written (.session .b4) (.cal calBody4)).request = ⟨.session .b4, .cal calBody4⟩ ∧
      (∃ y, ((committed w).channel .b4).session = some y ∧ y.wireOff = w) ∧ ((committed w).channel .b4).pending = none ∧
      fits32 ((committed w).clock.minutes + (committed w).shift.working.zeroInterval) :=
  fun w _ => ⟨rfl, writing_lone _ _, rfl, ⟨_, rfl, rfl⟩, rfl, small_fits 60 (by decide)⟩
theorem meets_CalibrationsAreMadeNominal_completion :
    (writing (.channel .b4) (.cal calBody4)).loneWrite (written (.channel .b4) (.cal calBody4)) ∧
      (written (.channel .b4) (.cal calBody4)).request = ⟨.channel .b4, .cal calBody4⟩ := ⟨writing_lone _ _, rfl⟩
theorem meets_CalibrationsAreMadeNominal :
    mill.ready ∧ ((mill.bridge .b1).state = .idle ∧ (mill.channel .b1).owed = none ∧ (mill.channel .b1).pending = none ∧
      mill.store.state ≠ .failed ∧ mill.store.reserved + 1 ≤ mill.free) ∧
    ((mill.bridge .b3).state = .locked ∧ (mill.channel .b3).owed = none ∧ (mill.channel .b3).pending = none) ∧
    ((mill.bridge .b2).state ≠ .idle ∧ (mill.bridge .b2).state ≠ .locked) :=
  ⟨mill_ready, ⟨rfl, rfl, rfl, by decide, by decide⟩, ⟨rfl, rfl, rfl⟩, by decide, by decide⟩

/-- Channel 1 with its mean one count short of full, at filter code 2. -/
def filling : State := withChannel .b1 { channel0 with active := ⟨60000, 20, 2, 5, 20, 4⟩, mean := [2164000, 2164000, 2164000, 0], failRun := 3 }

theorem meets_ConversionsFormReadings :
    filling.link.input = [] ∧ (filling.channel .b1).wireOff = false ∧ (filling.channel .b1).active ≠ ⟨0, 0, 0, 0, 0, 0⟩ ∧
      (filling.channel .b1).cal.spanCounts ≠ (filling.channel .b1).cal.zeroCounts ∧
      [2164000, 2164000, 2164000] = (filling.channel .b1).mean.take (2 ^ (filling.channel .b1).active.filter - 1) ∧
      [(2164000 : Int), 2164000, 2164000].length + 1 = 2 ^ (filling.channel .b1).active.filter ∧
      -8388608 < (8388606 : Int) ∧ (8388606 : Int) < 8388607 ∧ (filling.channel .b1).failRun + 1 < 5 :=
  ⟨rfl, rfl, by decide, by decide, rfl, rfl, by decide, by decide, by decide⟩

/-- Channel 1 with a period in progress of a first reading and a length, in a bridge with its vehicle on. -/
def measuring (p : Option Period) : State :=
  { withChannel .b1 { channel0 with period := p } with
    bridges := mill.bridges.set .b1 { bridge0 .capture with present := true } }

-- R123: 4,000 kg within a division of 20 kg of the first reading, or not, and the fiftieth conversion of its 5 tenths of a second or not.
theorem test_periods_begin_and_end :
    let read (p : Option Period) : Option Period × Bool :=
      let c := (after (.loadCellConversion .b1 266667 true) (measuring p)).channel .b1
      (c.period, c.lastStable)
    read none = (some ⟨4000, 0⟩, false) ∧ read (some ⟨3960, 30⟩) = (some ⟨4000, 0⟩, false) ∧
      read (some ⟨3980, 48⟩) = (some ⟨3980, 49⟩, false) ∧ read (some ⟨3980, 49⟩) = (none, true) := by decide

/-- R93, R123: a reading that sets PRESENT ends the period in progress; with none in progress, log 42. -/
theorem test_a_reading_that_sets_present_begins_no_period :
    let arrive (p : Option Period) : Option Period × Bool × Bool :=
      let s := { withChannel .b1 { channel0 with period := p, lastStable := true } with
        bridges := mill.bridges.set .b1 (bridge0 .idle) }
      let t := after (.loadCellConversion .b1 266667 true) s
      ((t.channel .b1).period, (t.channel .b1).lastStable, (t.bridge .b1).present)
    arrive (some ⟨4000, 3⟩) = (none, false, true) ∧ arrive none = (none, true, true) := by decide

theorem meets_ConversionsFormReadings_periods :
    (measuring none).link.input = [] ∧ ((measuring none).channel .b1).wireOff = false ∧
    ((measuring none).channel .b1).period = none ∧
    ((20 < (4000 - 3960 : Int).natAbs) ∧ (4000 - 3980 : Int).natAbs ≤ 20) ∧
    (48 + 1 < 10 * ((measuring none).channel .b1).active.stability ∧
      10 * ((measuring none).channel .b1).active.stability ≤ 49 + 1) := by decide

/-- Channel 1 with runs of checks, its flag and a mean that fills. -/
def running (fails passes : Nat) (wireOff : Bool) : State :=
  withChannel .b1 { channel0 with
    active := ⟨60000, 20, 2, 5, 20, 4⟩, mean := [5, 5], failRun := fails, passRun := passes, wireOff := wireOff }

theorem meets_ConversionsFormReadings_runs :
    ([5, 5] = ((running 0 0 false).channel .b1).mean.take (2 ^ ((running 0 0 false).channel .b1).active.filter - 1) ∧
      [(5 : Int), 5].length + 1 < 2 ^ ((running 0 0 false).channel .b1).active.filter) ∧
    ((withChannel .b1 Channel.factory).channel .b1).active = ⟨0, 0, 0, 0, 0, 0⟩ ∧
    (((running 3 0 false).channel .b1).failRun + 1 < 5 ∧ 5 ≤ ((running 4 0 false).channel .b1).failRun + 1) ∧
    (((running 9 0 true).channel .b1).wireOff = true ∧ ((running 0 98 true).channel .b1).passRun + 1 < 100 ∧
      100 ≤ ((running 0 99 true).channel .b1).passRun + 1) := by decide

/-- Bridge 1 idle and empty, its stability period at its end on a reading, with a zero due or not. -/
def settling (r : Int) (zeroDue : Bool) : State :=
  { withBridge .b1 { bridge0 .idle with zeroDue := zeroDue } with
    channels := mill.channels.set .b1 { channel0 with rounded := some r, filtered := r, period := some ⟨r, 3⟩ } }

theorem meets_StableReadingsWeighAndZero :
    (∃ p y, (mill.channel .b2).period = some p ∧ (mill.channel .b2).rounded = some 32460 ∧
      (mill.channel .b2).filtered = 2164000 ∧ (mill.bridge .b2).state = .bound ∧ (mill.bridge .b2).binding = some bind0 ∧
      bind0.pass = .gross 2 218 2 false ∧ mill.grower? 218 = some y ∧ (mill.bridge .b2).present = true ∧
      ((20 * (mill.channel .b2).active.division : Nat) : Int) ≤ 32460 ∧ (mill.channel .b2).overrange = false) ∧
    ((withBridge .b2 { mill.bridges.q2 with present := false }).bridge .b2).present = false ∧
    (∀ z ∈ [true, false], ((settling 80 z).channel .b1).rounded = some 80 ∧ ((settling 80 z).bridge .b1).state = .idle ∧
      ((settling 80 z).bridge .b1).present = false ∧ ((settling 80 z).bridge .b1).zeroDue = z ∧
      (80 : Int).natAbs ≤ ((settling 80 z).channel .b1).active.zeroBand * ((settling 80 z).channel .b1).active.division) ∧
    ((settling (-100) true).channel .b1).active.zeroBand * ((settling (-100) true).channel .b1).active.division < (-100 : Int).natAbs :=
  ⟨⟨_, _, rfl, rfl, rfl, rfl, rfl, rfl, rfl, rfl, by decide, rfl⟩, rfl, by decide, by decide⟩
/-- Bridge 2 bound for a gross pass with the stored tare wished, its vehicle with the uses given, at a stable reading. -/
def wishing (r : Int) (uses : Nat) : State :=
  { withChannel .b2 { channel0 with rounded := some r, filtered := 2164000, period := some ⟨r, 30⟩ } with
    bridges := mill.bridges.set .b2 { bridge0 .bound with present := true, binding := some { bind0 with pass := .gross 2 218 2 true } }
    vehicles := [(4417, ⟨2, some ⟨11380, clock0, 3⟩, uses⟩)] }

-- R8, R10, R13: 32,460 kg less 11,380 kg, trash 632 and net 20,448, and one use fewer.
theorem test_capture_with_the_stored_tare :
    let t := after (.stableEnding .b2) (wishing 32460 5)
    (t.store.inFlight.map (·.request.body)) =
        some (.gross ⟨10, 218, 4417, 2, 2, .b2, 135, 32460, clock0, .applied 11380 632 20448⟩) ∧
      (t.vehicle? 4417).map (·.uses) = some 4 := by decide +kernel
theorem meets_StableReadingsWeighAndZero_stored : ∀ r ∈ [(11380 : Int), 11381], ∀ uses ∈ [0, 1],
    ((wishing r uses).channel .b2).rounded = some r ∧ ((wishing r uses).bridge .b2).state = .bound ∧
      ((wishing r uses).bridge .b2).present = true ∧ ((20 * ((wishing r uses).channel .b2).active.division : Nat) : Int) ≤ r ∧
      ((wishing r uses).vehicle? 4417).map (·.uses) = some uses ∧
      ((wishing r uses).grower? 218).isSome = true ∧ (11380 < (11381 : Int).toNat ∧ (11380 : Int).toNat ≤ 11380) := by decide

/-- Bridge 2 bound for the tare of delivery 6, of 41,230 kg gross, at a stable reading. -/
def emptied (r : Int) : State :=
  { tareBound with
    channels := mill.channels.set .b2 { channel0 with rounded := some r, filtered := 2164000, period := some ⟨r, 30⟩ }
    bridges := tareBound.bridges.set .b2 { tareBound.bridge .b2 with present := true } }

-- R12: a tare at or above the gross is REJECTED.
theorem test_tare_capture_at_the_gross : ∀ r ∈ [(41230 : Int), 41220],
    (after (.stableEnding .b2) (emptied r)).store.inFlight.map (·.request.body) = some (.tare
      ⟨6, 9032, some .b2, 41230, r.toNat, if r = 41230 then .rejected else .accepted 0 10, clock0⟩) := by decide +kernel
theorem meets_StableReadingsWeighAndZero_tares : ∀ r ∈ [(41230 : Int), 41229],
    ((emptied r).channel .b2).rounded = some r ∧ ((emptied r).bridge .b2).state = .bound ∧
      ((emptied r).bridge .b2).present = true ∧ ((emptied r).delivery? 6).map (·.gross.kg) = some 41230 ∧
      ((emptied r).bridge .b2).binding = some { bind0 with pass := .tare 6 } := by decide

/-- Bridge 4 in its session at a stable reading, with a step in progress or none. -/
def calibrated (k : Option CalStep) : State :=
  withChannel .b4 { channel0 with
    rounded := some 0, filtered := 412300, period := some ⟨0, 30⟩, session := some ⟨none, none, k, some 5, false, false⟩ }

theorem test_stable_reading_is_the_steps_result :
    ((after (.stableEnding .b4) (calibrated (some ⟨.span 20000, 9⟩))).channel .b4).session.map (·.spanResult) =
      some (some (412300, 20000)) := by decide
theorem meets_StableReadingsWeighAndZero_steps : ∀ k ∈ [none, some ⟨.zero, 9⟩, some ⟨.span 20000, 9⟩],
    ((calibrated k).channel .b4).period = some ⟨0, 30⟩ ∧ ((calibrated k).channel .b4).rounded = some 0 ∧
      ((calibrated k).channel .b4).filtered = 412300 ∧ ((calibrated k).bridge .b4).state = .calibrating ∧
      ((calibrated k).channel .b4).session.map (·.step) = some k := by decide
theorem meets_WireOffIsRaisedAndCleared_by_state :
    ∀ x ∈ [BridgeState.idle, .arrived, .clearing, .bound, .capture, .locked],
      ((withBridge .b1 (bridge0 x)).bridge .b1).state = x ∧ ((withBridge .b1 (bridge0 x)).channel .b1).wireOff = false := by
  decide
-- R112, R138: a wire-off in a session makes CAL STEP with ABANDONED and then BRIDGE LOCKED.
theorem test_wire_off_ends_the_session : told (.wireOffRaise .b4) mill =
    [.calStep .b4 .whole .abandoned none, .bridgeLocked .b4 .wireOff none] := by decide
theorem meets_WireOffIsRaisedAndCleared_in_a_session :
    (mill.bridge .b4).state = .calibrating ∧ (mill.channel .b4).wireOff = false ∧ mill.store.inFlight = none ∧
    ((committed false).bridge .b4).state = .calibrating ∧ ((committed false).channel .b4).wireOff = false ∧
    ∃ f, (committed false).store.inFlight = some f ∧ f.request.requester = .session .b4 :=
  ⟨rfl, rfl, rfl, rfl, rfl, _, rfl, rfl⟩
theorem meets_WireOffIsRaisedAndCleared :
    mill.link.input = [] ∧ (mill.channel .b1).wireOff = false ∧ (mill.bridge .b1).state = .idle ∧
      (mill.bridge .b2).state = .bound ∧ ((withChannel .b3 { channel0 with wireOff := true }).channel .b3).wireOff = true :=
  ⟨rfl, rfl, rfl, rfl, rfl⟩

/-! ### The record store -/

theorem meets_ReservationsAndExportMarksJudgeTheStore :
    (¬ mill.free < mill.store.reserved + 3983 + 64 ∧ mill.free < mill.store.reserved + 3984 + 64 ∧ mill.store.state = .normal) ∧
    ((withStore { mill.store with state := .low, reserved := 5000 }).store.state = .low ∧
      (withStore { mill.store with state := .failed }).store.state = .failed) ∧
    ((storing .low 3993).free < (storing .low 3993).store.reserved + 64 ∧
      ¬ (storing .low 3993).free < (storing .low 3993).store.reserved - 1 + 64) ∧
    (mill.ready ∧ 3 < mill.store.exportMark ∧ mill.store.exportMark ≤ 4 ∧ 12 ≤ mill.store.lastSequence ∧
      mill.store.lastSequence < 13) :=
  ⟨by decide, ⟨rfl, rfl⟩, by decide, mill_ready, by decide, by decide, by decide, by decide⟩

/-- A gross ticket with the stored tare applied. -/
def ticket : GrossTicket := ⟨10, 218, 4417, 2, 2, .b2, 135, 32460, clock0, .applied 11380 632 20448⟩
/-- The ticket's write, from a bridge in CAPTURE with a pending cause or none. -/
def capturing (cause : Option LockCause) : State :=
  { writing (.bridge .b2) (.gross ticket) with
    bridges := mill.bridges.set .b2 { bridge0 .capture with present := true, binding := some bind0, pendingCause := cause } }

theorem meets_GrossTicketsCreateDeliveries : ∀ c ∈ [none, some LockCause.overrange],
    (capturing c).link.input = [] ∧ (capturing c).store.state ≠ .failed ∧
      (capturing c).store.inFlight = some (written (.bridge .b2) (.gross ticket)) ∧
      (capturing c).store.tickets = ⟨none, none, none, none⟩ ∧ (capturing c).store.shared = [] ∧
      (capturing c).store.waiting = [] ∧ ((capturing c).channel .b2).pending = none ∧
      ((capturing c).bridge .b2).pendingCause = c := by decide

/-- A tare ticket of delivery 7, accepted at a net or rejected, and its write in flight from bridge 2; delivery 7 stands in
a state with crushed mass 15,100 (12.3). -/
def tareTicket (x : TareStatus) : TareTicket := ⟨7, 4417, some .b2, 27840, 12900, x, clock0⟩
def taring (x : TareStatus) (st : DeliveryState) : State :=
  let d : Delivery :=
    if st = .openGross then delivery0
    else { delivery0 with queueMass := 15682, crushed := 15100, parts := [⟨3, 15100⟩], state := st, estimated := true }
  let s := withDelivery 7 d
  { s with
    store := { mill.store with inFlight := some (written (.bridge .b2) (.tare (tareTicket x))) }
    feed := if st = .queued then [7] else []
    bridges := mill.bridges.set .b2 { bridge0 .capture with binding := some { bind0 with pass := .tare 7 } } }

-- 12.3 step 6: net 14,791 below the crushed 15,100, overcrush 309.
theorem test_netting_overcrush :
    let t := after .writeComplete (taring (.accepted 149 14791) .queued)
    (t.delivery? 7).map (fun d => (d.queueMass, d.crushed, d.overcrush, d.state)) =
      some (14791, 15100, some 309, .crushed) ∧ t.feed = [] := by decide
theorem meets_NettingsTakeEffectByState :
    ∀ x ∈ [TareStatus.accepted 149 14791, .accepted 149 15100, .accepted 149 15101, .rejected],
    ∀ st ∈ [DeliveryState.openGross, .queued, .crushed],
      let s := taring x st
      s.link.input = [] ∧ s.store.state ≠ .failed ∧
        s.store.inFlight = some (written (.bridge .b2) (.tare (tareTicket x))) ∧
        s.store.tickets = ⟨none, none, none, none⟩ ∧ s.store.shared = [] ∧ s.store.waiting = [] ∧
        (s.channel .b2).pending = none ∧ (s.delivery? 7).map (·.state) = some st ∧
        (st = .openGross ∨ (s.delivery? 7).map (·.parts) = some [⟨3, 15100⟩] ∧ (s.window? 3).map (·.settled) = some false) := by
  decide

theorem meets_NettingsTakeEffectByState_locking :
    ((taring .rejected .queued).bridge .b2).pendingCause = none ∧
      (((taring .rejected .queued).modBridge .b2 fun x => { x with pendingCause := some .overrange }).bridge .b2).pendingCause =
        some .overrange := by decide

/-- The same ticket as a stored netting's, its figures pending on delivery 7. -/
def netting7 (x : TareStatus) (st : DeliveryState) : State :=
  { taring x st with
    store := { mill.store with inFlight := some (written (.delivery 7) (.tare { tareTicket x with bridge := none })) } }

theorem test_stored_netting_changes_no_vehicle :
    let t := after .writeComplete (netting7 (.accepted 149 15101) .queued)
    (t.delivery? 7).map (fun d => (d.queueMass, d.netting.map (·.source))) = some (15101, some .stored) ∧
      t.vehicles = mill.vehicles := by decide
theorem meets_NettingsTakeEffectByState_stored :
    ∀ x ∈ [TareStatus.accepted 149 14791, .accepted 149 15100, .accepted 149 15101],
    ∀ st ∈ [DeliveryState.openGross, .queued, .crushed],
      let s := netting7 x st
      s.link.input = [] ∧ s.store.state ≠ .failed ∧
        s.store.inFlight = some (written (.delivery 7) (.tare { tareTicket x with bridge := none })) ∧
        s.store.tickets = ⟨none, none, none, none⟩ ∧ s.store.shared = [] ∧ s.store.waiting = [] ∧
        (s.delivery? 7).map (·.state) = some st ∧
        (st = .openGross ∨ (s.delivery? 7).map (·.parts) = some [⟨3, 15100⟩] ∧ (s.window? 3).map (·.settled) = some false) := by
  decide

/-- An idle port with bridge 3 served last (9.10), tickets from bridges 1 and 3, and shared requests. -/
def asked (shared : List WriteRequest) (tickets : Bool) : State :=
  withStore { mill.store with
    lastTicket := some .b3, shared := shared, waiting := [⟨.shiftUnit, .window 3 (window0 .closed 5)⟩]
    tickets :=
      if tickets then ⟨some ⟨.bridge .b1, .void ⟨8, 218, 4417, 10, 32460⟩⟩, none, some ⟨.bridge .b3, .void ⟨8, 218, 4417, 10, 32460⟩⟩, none⟩
      else ⟨none, none, none, none⟩ }

/-- A class 3 and a class 2 request. -/
def third : WriteRequest := ⟨.shiftUnit, .window 1 (window0 .closed 5)⟩
def second : WriteRequest := ⟨.window 1, .window 1 (window0 .closed 5)⟩

-- 9.10 step 1: after bridge 3 the rotation is 4, 1: bridge 1 starts.
theorem test_rotation_after_bridge_3 :
    (State.startNext (asked [third, second] true)).store.inFlight.map (·.request.requester) = some (.bridge .b1) := by decide
theorem test_class_2_before_class_3 :
    (State.startNext (asked [third, second] false)).store.inFlight.map (·.request.requester) = some (.window 1) := by decide
theorem meets_WritesStartByClassAndRotation :
    (asked [third, second] true).store.state ≠ .failed ∧ (asked [third, second] true).store.inFlight = none ∧
    ((asked [] true).store.tickets.get .b1 ≠ none ∧ (asked [] true).store.tickets.get .b4 = none) ∧
    ((asked [third, second] false).store.shared = [third] ++ second :: [] ∧ requestClass second.requester = 2 ∧
      requestClass third.requester ≠ 2) ∧
    (asked [third] false).store.shared = third :: [] ∧
    (withStore { mill.store with badSlots := [12] }).store.badSlots = [(mill.store.lastSlot + 1) % 4096] ∧
    ((asked (List.replicate 7 third) true).store.shared.length < 8 ∧
      8 ≤ (asked (List.replicate 8 third) true).store.shared.length ∧ requestClass (.session .b1) ≠ 1) ∧
    (mill.store.state ≠ .failed ∧ mill.store.inFlight = none ∧ mill.store.tickets = ⟨none, none, none, none⟩ ∧
      mill.store.shared = [] ∧ mill.store.waiting = []) := by decide

/-- Delivery 9 in SETTLING, and the contents of its SETTLE record. -/
def settled9 : SettleBody :=
  mill.settleBody 9 { delivery0 with
    netting := some netting0, queueMass := 20448, crushed := 20448, state := .settling, parts := [⟨1, 20448⟩] } netting0
/-- Its write in flight, with window 1 final and written, and the references given. -/
def posting (refs : Nat) : State :=
  { writing (.delivery 9) (.settle settled9) with
    windows := (withWindow 1 { window0 .resulted 20448 with summaryWritten := true, refs := refs }).windows }

theorem meets_SettlementsPostTheGrower : ∀ n ∈ [1, 2],
    (posting n).link.input = [] ∧ (posting n).store.state ≠ .failed ∧
      (posting n).store.inFlight = some (written (.delivery 9) (.settle settled9)) ∧ settled9.delivery = 9 ∧
      (posting n).store.tickets = ⟨none, none, none, none⟩ ∧ (posting n).store.shared = [] ∧
      (posting n).store.waiting = [] ∧ (posting n).grower? settled9.record.grower ≠ none ∧
      settled9.record.parts = [⟨1, 20448⟩] ∧ ((posting n).window? 1).map (fun w => (w.settled, w.refs)) = some (true, n) := by
  decide

theorem meets_SettlementsPostTheGrower_told :
    ∃ w, (posting 1).window? (posting 1).windows.counter = some w ∧ w.extended = false := ⟨_, rfl, rfl⟩

/-- Window 1 RESULTED with the references given, and its record's write in flight. -/
def resulted1 (refs : Nat) : Window := { window0 .resulted 20448 with quality := some ⟨1800, 1500⟩, refs := refs }
def recording (refs : Nat) : State :=
  { writing (.window 1) (.window 1 (resulted1 refs)) with windows := (withWindow 1 (resulted1 refs)).windows }

theorem meets_WindowRecordsSettleTheirDeliveries (refs : Nat) :
    (recording refs).canonical ∧ (recording refs).oneOpenWindow ∧ (recording refs).link.input = [] ∧
      (recording refs).store.state ≠ .failed ∧
      (recording refs).store.inFlight = some (written (.window 1) (.window 1 (resulted1 refs))) ∧
      (recording refs).window? 1 = some (resulted1 refs) ∧ (resulted1 refs).state = .resulted ∧ (resulted1 refs).refs = refs := by
  refine ⟨⟨mill_canonical.1, mill_canonical.2.1, Table.wf_put mill_canonical.2.2.1 1 _, mill_canonical.2.2.2⟩,
    ⟨⟨_, rfl, rfl⟩, ?_⟩, rfl, nofun, rfl, rfl, rfl, rfl⟩
  intro n w
  simp only [State.window?, recording, withWindow, mill, Table.put, Nat.lt_irrefl, if_false, if_true, Table.find]
  split
  · next h => intro hw; cases hw; subst h; exact ⟨by decide, by intro h; cases h⟩
  · split
    · next h => intro hw; cases hw; subst h; exact ⟨by decide, by intro h; cases h⟩
    · split
      · next h => intro hw; cases hw; subst h; exact ⟨by decide, fun _ => rfl⟩
      · intro hw; cases hw
theorem meets_SettlementFiguresAreRoundedAsStated :
    250 ≤ 250 ∧ 0 < (([⟨1, 20448, 1800, 1500, false, 0⟩] : List SettlePart).map (·.kg)).sum ∧
      (([⟨1, 0, 1800, 1500, false, 0⟩] : List SettlePart).map (·.kg)).sum = 0 := by decide

/-- A write of delivery 8's VOID record that has failed its verify before or not, with `n` bad slots. -/
def failing (second : Bool) (n : Nat) : State :=
  withStore { mill.store with
    badSlots := List.replicate n 7
    inFlight := some { written (.delivery 8) (.void ⟨8, 218, 4417, 10, 32460⟩) with second := second } }

theorem meets_FailedVerifiesMoveTheWrite :
    (failing false 0).store.state ≠ .failed ∧ (∃ f, (failing false 0).store.inFlight = some f ∧ f.second = false) ∧
      (∃ f, (failing true 31).store.inFlight = some f ∧ f.second = true ∧ (failing true 31).store.badSlots.length < 32) ∧
      ∃ f, (failing true 32).store.inFlight = some f ∧ f.second = true ∧ 32 ≤ (failing true 32).store.badSlots.length :=
  ⟨by decide, ⟨_, rfl, rfl⟩, ⟨_, rfl, rfl, by decide⟩, _, rfl, rfl, by decide⟩

/-! ### Minutes and resets -/

theorem meets_MinutesAreCounted :
    (∃ w, mill.canonical ∧ fits32 (mill.clock.minutes + 1) ∧ mill.window? mill.windows.counter = some w ∧
      fits32 (w.running + 1) ∧ w.extended = false ∧ w.running + 1 < mill.shift.working.maxRunning) ∧
    (∀ n v d, mill.window? n = some v → v.state = .closed → v.deadline = some d → mill.clock.minutes + 1 < d) ∧
    (∀ b, mill.clock.minutes + 1 < (mill.bridge b).zeroDeadline) ∧ mill.lines.tr.level ≠ some true ∧
    ({ mill with lines := { mill.lines with tr := wire .activeHigh true } } : State).lines.tr.level = some true := by
  refine ⟨⟨_, mill_canonical, small_fits 31 (by decide), rfl, small_fits 1 (by decide), rfl, by decide⟩, ?_, by intro b; cases b <;> decide, by decide, rfl⟩
  intro n v d
  simp only [State.window?, mill, Table.find]
  split
  · intro hv; cases hv; intro _ hd; cases hd; decide
  · split
    · intro hv; cases hv; intro h; cases h
    · split
      · intro hv; cases hv; intro h; cases h
      · intro hv; cases hv
theorem meets_RestartKeepsWhatIsNonvolatile :
    mill.store.formatMark = true ∧ (mill.channel .b1).active ≠ ⟨0, 0, 0, 0, 0, 0⟩ ∧ (mill.channel .b1).cal.valid = true ∧
      (State.reset.channel .b1).active = ⟨0, 0, 0, 0, 0, 0⟩ ∧ fullOfBad.store.lastRecordGood = true ∧
      ∃ w, mill.window? 3 = some w ∧ w.state ≠ .closed :=
  ⟨rfl, by decide, rfl, rfl, test_restart_writes_over_the_next_slot.1, _, rfl, by decide⟩

end Sys2Proof.Tests
end

/-! SUPPORT. The step and the millisecond that an idle step lets pass, as equations. -/
namespace Sys2Proof.Machine

open Sys2Proof

/-! ## One millisecond -/

theorem Clock.tick_of_lt {c : Clock} (h : c.ms < 999) : c.tick = { c with ms := c.ms + 1 } := if_pos (by omega)

theorem Clock.tick_of_eq {c : Clock} (h : c.ms = 999) :
    c.tick = { c with ms := 0, reading := if c.isSet then nextSecond c.reading else c.reading } := if_neg (by omega)

@[simp] theorem Clock.tick_minutes (c : Clock) : c.tick.minutes = c.minutes := by
  unfold Clock.tick; split <;> rfl

@[simp] theorem Clock.tick_isSet (c : Clock) : c.tick.isSet = c.isSet := by
  unfold Clock.tick; split <;> rfl

theorem Persistence.tick_eq (p : Persistence) :
    p.tick = match p with | .running n => .running (n - 1) | p => p := by
  cases p <;> rfl

theorem Bridge.tick_eq (x : Bridge) : x.tick = { x with
    bindTimer := x.bindTimer.map (· - 1), clearHold := x.clearHold.map (· - 1)
    overTimer := match x.overTimer with | .running n => .running (n - 1) | p => p
    underTimer := match x.underTimer with | .running n => .running (n - 1) | p => p } := by
  simp only [Bridge.tick, Persistence.tick_eq]

theorem ScLine.tick_eq (l : ScLine) :
    l.tick = match l with | .off => .off | .gap n => .gap (n - 1) | .on n => .on (n - 1) := by
  cases l <;> rfl

theorem Input.tick_eq (i : Input) : i.tick =
    { i with hold := i.hold.map (· + 1), steady := i.steady + if i.filtered = none then 1 else 0 } := by
  cases h : i.filtered <;> simp [Input.tick, h]

@[simp] theorem FieldLines.tick_input (l : FieldLines) (line : InputLine) :
    l.tick.input line = (l.input line).tick := by
  cases line with
  | e n => exact Quad.get_map l.e Input.tick n
  | x n => exact Quad.get_map l.x Input.tick n
  | cp | jp | wp | tr | ss => rfl

@[simp] theorem State.tick_bridge (s : State) (b : BridgeNo) : s.tick.bridge b = (s.bridge b).tick :=
  Quad.get_map s.bridges Bridge.tick b

@[simp] theorem State.tick_channel (s : State) (b : BridgeNo) : s.tick.channel b = (s.channel b).tick :=
  Quad.get_map s.channels Channel.tick b

theorem step_of_empty {s : State} (h : s.pending = []) : step s = .next s.tick := by simp only [step, h]

theorem step_of_cons {s : State} {c : Instr} {rest : List Instr} (h : s.pending = c :: rest) :
    step s = exec c { s with pending := rest } := by simp only [step, h]

end Sys2Proof.Machine

/-! SUPPORT. Every operation of the part leaves the queue of waiting commands alone. -/
namespace Sys2Proof.Machine

open Sys2Proof

section

variable (s : State)

/-! ## The queue of waiting commands

No operation of the part writes the queue: one lemma for each operation, in the order of the definitions. -/

/-- A fold of steps that each keep a part of the state keeps it. -/
theorem foldl_keeps {α β : Type} (g : State → β) {f : State → α → State} (h : ∀ s a, g (f s a) = g s)
    (l : List α) : ∀ s, g (l.foldl f s) = g s := by
  induction l with
  | nil => exact fun _ => rfl
  | cons a l ih => exact fun s => (ih (f s a)).trans (h s a)

/-! ### Windows and the sampler -/

@[simp] theorem State.closeWindow_pending (shift : Nat) : (s.closeWindow shift).pending = s.pending := by
  unfold State.closeWindow; dsimp only; repeat' split
  all_goals simp

@[simp] theorem State.extendWindow_pending : s.extendWindow.pending = s.pending := by
  unfold State.extendWindow; repeat' split
  all_goals simp

@[simp] theorem State.triggerClose_pending (shift : Nat) : (s.triggerClose shift).pending = s.pending := by
  unfold State.triggerClose; repeat' split
  all_goals simp

@[simp] theorem State.closeRetest_pending : s.closeRetest.pending = s.pending := by
  unfold State.closeRetest; repeat' split
  all_goals simp

@[simp] theorem State.targetTest_pending : s.targetTest.pending = s.pending := by
  unfold State.targetTest; repeat' split
  all_goals simp

@[simp] theorem State.durationTest_pending : s.durationTest.pending = s.pending := by
  unfold State.durationTest; repeat' split
  all_goals simp

@[simp] theorem State.samplerTest_pending : s.samplerTest.pending = s.pending := by
  unfold State.samplerTest; dsimp only; repeat' split
  all_goals simp

@[simp] theorem State.strokeSeen_pending (n : Nat) : (s.strokeSeen n).pending = s.pending := rfl

@[simp] theorem State.strokeMissed_pending (n : Nat) : (s.strokeMissed n).pending = s.pending := by
  unfold State.strokeMissed; dsimp only; repeat' split
  all_goals simp

@[simp] theorem State.strokeEdge_pending : s.strokeEdge.pending = s.pending := by
  unfold State.strokeEdge; repeat' split
  all_goals simp

@[simp] theorem State.confirmExpired_pending : s.confirmExpired.pending = s.pending := by
  unfold State.confirmExpired; repeat' split
  all_goals simp

@[simp] theorem State.juicePulse_pending (kg : Nat) : (s.juicePulse kg).pending = s.pending := rfl

@[simp] theorem State.waterPulse_pending (kg : Nat) : (s.waterPulse kg).pending = s.pending := rfl

@[simp] theorem State.expireWindow_pending (n : Nat) : (s.expireWindow n).pending = s.pending := by
  unfold State.expireWindow; repeat' split
  all_goals simp

@[simp] theorem State.expireWindows_pending : s.expireWindows.pending = s.pending :=
  foldl_keeps State.pending State.expireWindow_pending _ s

@[simp] theorem State.releaseTest_pending (n : Nat) : (s.releaseTest n).pending = s.pending := by
  unfold State.releaseTest; dsimp only; repeat' split
  all_goals simp

/-! ### Settlement and the feed -/

@[simp] theorem State.handOver_pending (n : Nat) : (s.handOver n).pending = s.pending := by
  unfold State.handOver; repeat' split
  all_goals simp

@[simp] theorem State.settleTest_pending (n : Nat) : (s.settleTest n).pending = s.pending := by
  unfold State.settleTest; repeat' split
  all_goals simp

@[simp] theorem State.settleTestsOf_pending (w : Nat) : (s.settleTestsOf w).pending = s.pending :=
  foldl_keeps State.pending State.settleTest_pending _ s

@[simp] theorem State.dropReference_pending (n : Nat) : (s.dropReference n).pending = s.pending := rfl

@[simp] theorem State.settleComplete_pending (sequence : Nat) (b : SettleBody) :
    (s.settleComplete sequence b).pending = s.pending := by
  simp [State.settleComplete, foldl_keeps State.pending State.dropReference_pending,
    foldl_keeps State.pending State.releaseTest_pending]

@[simp] theorem State.debit_pending (n : Nat) (d : Delivery) (w kg : Nat) :
    (s.debit n d w kg).pending = s.pending := rfl

@[simp] theorem State.leaveFeed_pending (n : Nat) : (s.leaveFeed n).pending = s.pending := rfl

@[simp] theorem State.debits_pending (w : Nat) (ns : List Nat) :
    ∀ (kg : Nat) (s : State), (State.debits w ns kg s).2.pending = s.pending := by
  induction ns with
  | nil => exact fun _ _ => rfl
  | cons n rest ih =>
    intro kg s
    unfold State.debits
    dsimp only
    repeat' split
    all_goals simp [ih]

@[simp] theorem State.orphan_pending (w kg : Nat) : (s.orphan w kg).pending = s.pending := by
  unfold State.orphan; repeat' split
  all_goals simp

@[simp] theorem State.canePulse_pending (kg : Nat) : (s.canePulse kg).pending = s.pending := by
  simp [State.canePulse]

@[simp] theorem State.net_pending (n : Nat) (x : Netting) : (s.net n x).pending = s.pending := by
  unfold State.net; dsimp only; repeat' split
  all_goals simp

/-! ### Deliveries -/

@[simp] theorem State.grossCapture_pending (b : BridgeNo) (vehicle cls grower inspection : Nat) (wish : Bool)
    (kg : Nat) : (s.grossCapture b vehicle cls grower inspection wish kg).1.pending = s.pending := by
  unfold State.grossCapture; dsimp only; repeat' split
  all_goals simp

@[simp] theorem State.grossComplete_pending (sequence : Nat) (t : GrossTicket) :
    (s.grossComplete sequence t).pending = s.pending := by
  simp [State.grossComplete]

@[simp] theorem State.tareComplete_pending (sequence : Nat) (t : TareTicket) :
    (s.tareComplete sequence t).pending = s.pending := by
  unfold State.tareComplete; dsimp only; repeat' split
  all_goals simp

@[simp] theorem State.storedComplete_pending (sequence : Nat) (t : TareTicket) :
    (s.storedComplete sequence t).pending = s.pending := by
  unfold State.storedComplete; dsimp only; repeat' split
  all_goals simp

@[simp] theorem State.voidComplete_pending (sequence : Nat) (v : VoidBody) :
    (s.voidComplete sequence v).pending = s.pending := by
  simp [State.voidComplete]

/-! ### Bridges -/

@[simp] theorem State.endPeriod_pending (b : BridgeNo) : (s.endPeriod b).pending = s.pending := rfl

@[simp] theorem State.ceased_pending (b : BridgeNo) (cause : LockCause) : (s.ceased b cause).pending = s.pending := by
  unfold State.ceased; repeat' split
  all_goals simp

@[simp] theorem State.setRange_pending (b : BridgeNo) (k : RangeKind) (v : Bool) :
    (s.setRange b k v).pending = s.pending := by
  unfold State.setRange; dsimp only; repeat' split
  all_goals simp

@[simp] theorem State.restartTimers_pending (b : BridgeNo) : (s.restartTimers b).pending = s.pending := rfl

@[simp] theorem State.enterLocked_pending (b : BridgeNo) (cause : LockCause) (discarded : Option Binding) :
    (s.enterLocked b cause discarded).pending = s.pending := by
  simp [State.enterLocked]

@[simp] theorem State.discardBinding_pending (b : BridgeNo) : (s.discardBinding b).pending = s.pending := by
  unfold State.discardBinding; dsimp only; repeat' split
  all_goals simp

@[simp] theorem State.arise_pending (b : BridgeNo) (cause : LockCause) : (s.arise b cause).pending = s.pending := by
  unfold State.arise; repeat' split
  all_goals simp

@[simp] theorem State.setZero_pending (b : BridgeNo) (zero : Int) : (s.setZero b zero).pending = s.pending := rfl

@[simp] theorem State.emptyMean_pending (b : BridgeNo) : (s.emptyMean b).pending = s.pending := by
  simp [State.emptyMean]

@[simp] theorem State.judgePresence_pending (b : BridgeNo) : (s.judgePresence b).pending = s.pending := by
  unfold State.judgePresence; repeat' split
  all_goals simp

@[simp] theorem State.applyConfig_pending (b : BridgeNo) (wasHeld : Bool) :
    (s.applyConfig b wasHeld).pending = s.pending := by
  unfold State.applyConfig
  split
  · rfl
  · simp [apply_ite State.pending]

@[simp] theorem State.goIdle_pending (b : BridgeNo) : (s.goIdle b).pending = s.pending := by
  unfold State.goIdle; dsimp only; repeat' split
  all_goals simp

@[simp] theorem State.judgeAbsent_pending (b : BridgeNo) : (s.judgeAbsent b).pending = s.pending := by
  unfold State.judgeAbsent; dsimp only; repeat' split
  all_goals simp

@[simp] theorem State.rearmZero_pending (b : BridgeNo) : (s.rearmZero b).pending = s.pending := rfl

@[simp] theorem State.takeZero_pending (b : BridgeNo) (zero : Int) : (s.takeZero b zero).pending = s.pending := rfl

@[simp] theorem State.zeroMinute_pending (b : BridgeNo) : (s.zeroMinute b).pending = s.pending := by
  unfold State.zeroMinute; repeat' split
  all_goals simp

@[simp] theorem State.zeroCheck_pending (b : BridgeNo) (reading count : Int) :
    (s.zeroCheck b reading count).pending = s.pending := by
  unfold State.zeroCheck; dsimp only; repeat' split
  all_goals simp

@[simp] theorem State.captureTest_pending (b : BridgeNo) (reading : Int) :
    (s.captureTest b reading).pending = s.pending := by
  unfold State.captureTest; dsimp only; repeat' split
  all_goals simp

@[simp] theorem State.leaveCapture_pending (b : BridgeNo) : (s.leaveCapture b).pending = s.pending := by
  unfold State.leaveCapture; dsimp only; repeat' split
  all_goals simp

@[simp] theorem State.bindExpired_pending (b : BridgeNo) : (s.bindExpired b).pending = s.pending := by
  unfold State.bindExpired; repeat' split
  all_goals simp

@[simp] theorem State.persistenceExpired_pending (b : BridgeNo) (k : RangeKind) :
    (s.persistenceExpired b k).pending = s.pending := by
  unfold State.persistenceExpired; repeat' split
  all_goals simp

@[simp] theorem State.clearHoldExpired_pending (b : BridgeNo) : (s.clearHoldExpired b).pending = s.pending := by
  unfold State.clearHoldExpired; repeat' split
  all_goals simp

@[simp] theorem State.bindBridge_pending (b : BridgeNo) (x : Binding) : (s.bindBridge b x).pending = s.pending := rfl

/-! ### Channels -/

@[simp] theorem State.endSession_pending (b : BridgeNo) : (s.endSession b).pending = s.pending := by
  unfold State.endSession; dsimp only; repeat' split
  all_goals simp

@[simp] theorem State.stepReading_pending (b : BridgeNo) (count : Int) :
    (s.stepReading b count).pending = s.pending := by
  unfold State.stepReading; repeat' split
  all_goals simp

@[simp] theorem State.stepTimeout_pending (b : BridgeNo) : (s.stepTimeout b).pending = s.pending := by
  unfold State.stepTimeout; repeat' split
  all_goals simp

@[simp] theorem State.sessionTimeout_pending (b : BridgeNo) : (s.sessionTimeout b).pending = s.pending := by
  unfold State.sessionTimeout; repeat' split
  all_goals simp

@[simp] theorem State.sessionComplete_pending (b : BridgeNo) (body : CalBody) :
    (s.sessionComplete b body).pending = s.pending := by
  unfold State.sessionComplete; dsimp only; repeat' split
  all_goals simp

@[simp] theorem State.wireOffBridge_pending (b : BridgeNo) : (s.wireOffBridge b).pending = s.pending := by
  unfold State.wireOffBridge; dsimp only; repeat' split
  all_goals simp

@[simp] theorem State.raiseWireOff_pending (b : BridgeNo) : (s.raiseWireOff b).pending = s.pending := by
  simp [State.raiseWireOff]

@[simp] theorem State.clearWireOff_pending (b : BridgeNo) : (s.clearWireOff b).pending = s.pending := by
  simp [State.clearWireOff]

@[simp] theorem State.stableEnding_pending (b : BridgeNo) (reading count : Int) :
    (s.stableEnding b reading count).pending = s.pending := by
  unfold State.stableEnding; repeat' split
  all_goals simp

@[simp] theorem State.stability_pending (b : BridgeNo) (reading count : Int) :
    (s.stability b reading count).pending = s.pending := by
  unfold State.stability; dsimp only; repeat' split
  all_goals simp

@[simp] theorem State.takeReading_pending (b : BridgeNo) (filtered : Int) :
    (s.takeReading b filtered).pending = s.pending := by
  unfold State.takeReading; dsimp only; repeat' split
  all_goals simp

@[simp] theorem State.joinMean_pending (b : BridgeNo) (count : Int) : (s.joinMean b count).pending = s.pending := by
  unfold State.joinMean; dsimp only; repeat' split
  all_goals simp

@[simp] theorem State.convert_pending (b : BridgeNo) (count : Int) (agree : Bool) :
    (s.convert b count agree).pending = s.pending := by
  unfold State.convert; dsimp only; repeat' split
  all_goals simp

@[simp] theorem State.periodStable_pending (b : BridgeNo) : (s.periodStable b).pending = s.pending := by
  unfold State.periodStable; dsimp only; repeat' split
  all_goals simp

@[simp] theorem State.wireOffRun_pending (b : BridgeNo) : (s.wireOffRun b).pending = s.pending := by
  unfold State.wireOffRun; repeat' split
  all_goals simp

@[simp] theorem State.wireClearRun_pending (b : BridgeNo) : (s.wireClearRun b).pending = s.pending := by
  unfold State.wireClearRun; repeat' split
  all_goals simp

@[simp] theorem State.enterCalibrating_pending (b : BridgeNo) (entry : EntryState) :
    (s.enterCalibrating b entry).pending = s.pending := rfl

@[simp] theorem State.beginStep_pending (b : BridgeNo) (x : Session) : (s.beginStep b x).pending = s.pending := rfl

/-! ### Lines -/

@[simp] theorem State.deliverLevel_pending (line : InputLine) : (s.deliverLevel line).pending = s.pending := by
  unfold State.deliverLevel; repeat' split
  all_goals simp

@[simp] theorem State.deliverEdge_pending (line : InputLine) : (s.deliverEdge line).pending = s.pending := by
  unfold State.deliverEdge; repeat' split
  all_goals simp

@[simp] theorem State.takeLevel_pending (line : InputLine) : (s.takeLevel line).pending = s.pending := by
  unfold State.takeLevel; dsimp only; repeat' split
  all_goals simp

@[simp] theorem State.holdExpired_pending (line : InputLine) : (s.holdExpired line).pending = s.pending := by
  unfold State.holdExpired; dsimp only; repeat' split
  all_goals simp

@[simp] theorem State.setInputSettings_pending (line : InputLine) (es : List (Nat × Nat)) :
    (s.setInputSettings line es).pending = s.pending := by
  unfold State.setInputSettings; dsimp only; repeat' split
  all_goals simp

@[simp] theorem State.lineSetInput_pending (line : InputLine) (es : List (Nat × Nat)) :
    (s.lineSetInput line es).pending = s.pending := by
  unfold State.lineSetInput; dsimp only; repeat' split
  all_goals simp

@[simp] theorem State.lineSetLamp_pending (entry : Bool) (b : BridgeNo) (es : List (Nat × Nat)) :
    (s.lineSetLamp entry b es).pending = s.pending := by
  unfold State.lineSetLamp; dsimp only; repeat' split
  all_goals simp

@[simp] theorem State.lineSet_pending (t : LineTarget) (es : List (Nat × Nat)) :
    (s.lineSet t es).pending = s.pending := by
  unfold State.lineSet; repeat' split
  all_goals simp

/-! ### Shifts and seasons -/

@[simp] theorem State.beginShift_pending (letter : Letter) (number : Nat) (body : ShiftBody) :
    (s.beginShift letter number body).pending = s.pending := by
  simp [State.beginShift]

@[simp] theorem State.seasonWindows_pending : s.seasonWindows.pending = s.pending := by
  simp [State.seasonWindows]

@[simp] theorem State.shiftComplete_pending (sequence : Nat) (body : ShiftBody) :
    (s.shiftComplete sequence body).pending = s.pending := by
  simp [State.shiftComplete]

@[simp] theorem State.seasonComplete_pending : s.seasonComplete.pending = s.pending := rfl

/-! ### Records -/

@[simp] theorem State.windowComplete_pending (sequence n : Nat) :
    (s.windowComplete sequence n).pending = s.pending := by
  unfold State.windowComplete; dsimp only; repeat' split
  all_goals simp

theorem State.ticketDone_pending (b : BridgeNo) {complete : State → State}
    (h : ∀ s, (complete s).pending = s.pending) : (s.ticketDone b complete).pending = s.pending := by
  simp [State.ticketDone, h]

@[simp] theorem State.requesterComplete_pending (sequence : Nat) (r : WriteRequest) :
    (s.requesterComplete sequence r).pending = s.pending := by
  unfold State.requesterComplete; repeat' split
  all_goals simp [State.ticketDone_pending]

@[simp] theorem State.completeWrite_pending : s.completeWrite.pending = s.pending := by
  unfold State.completeWrite; dsimp only; repeat' split
  all_goals simp

@[simp] theorem State.markBad_pending (slot : Nat) : (s.markBad slot).pending = s.pending := rfl

@[simp] theorem State.failVerify_pending : s.failVerify.pending = s.pending := by
  unfold State.failVerify; dsimp only; repeat' split
  all_goals simp

/-! ### The minute -/

@[simp] theorem State.countMinute_pending : s.countMinute.pending = s.pending := by
  unfold State.countMinute; repeat' split
  all_goals simp

@[simp] theorem State.clockMinute_pending : s.clockMinute.pending = s.pending := by
  unfold State.clockMinute; repeat' split
  all_goals simp

@[simp] theorem State.minute_pending : s.minute.pending = s.pending := by
  simp [State.minute, foldl_keeps State.pending State.zeroMinute_pending]

/-! ### Decisions of requests -/

/-- The state that a decision leaves of the one it was made in: a refusal leaves it as it was (R190). -/
def Decision.after (s : State) : Decision → State
  | .refuse _ => s
  | .take t _ => t

@[simp] theorem Decision.after_refuse (code : ResultCode) : (Decision.refuse code).after s = s := rfl

@[simp] theorem Decision.after_take (t : State) (content : ReplyContent) :
    (Decision.take t content).after s = t := rfl

/-- An answered request leaves what its decision leaves, but for the link, where the reply is placed (R189). -/

theorem State.answer_eq (kind tag : Byte) (d : Decision) :
    s.answer kind tag d = { d.after s with link := (s.answer kind tag d).link } := by
  cases d <;> rfl

@[simp] theorem decideTip_pending (n : Nat) : ((decideTip n s).after s).pending = s.pending := by
  unfold decideTip; dsimp only; repeat' split
  all_goals simp

@[simp] theorem decideVoid_pending (n : Nat) : ((decideVoid n s).after s).pending = s.pending := by
  unfold decideVoid; dsimp only; repeat' split
  all_goals simp

@[simp] theorem decideNetFromStored_pending (n : Nat) : ((decideNetFromStored n s).after s).pending = s.pending := by
  unfold decideNetFromStored; dsimp only; repeat' split
  all_goals simp

@[simp] theorem decideDeliveryQuery_pending (n : Nat) : ((decideDeliveryQuery n s).after s).pending = s.pending := by
  unfold decideDeliveryQuery; repeat' split
  all_goals simp

@[simp] theorem decideVehicleSet_pending (code cls : Nat) :
    ((decideVehicleSet code cls s).after s).pending = s.pending := by
  unfold decideVehicleSet; dsimp only; repeat' split
  all_goals simp

@[simp] theorem decideVehicleDrop_pending (code : Nat) :
    ((decideVehicleDrop code s).after s).pending = s.pending := by
  unfold decideVehicleDrop; repeat' split
  all_goals simp

@[simp] theorem decideGrowerSet_pending (code fibre : Nat) :
    ((decideGrowerSet code fibre s).after s).pending = s.pending := by
  unfold decideGrowerSet; dsimp only; repeat' split
  all_goals simp

@[simp] theorem decideGrowerDrop_pending (code : Nat) : ((decideGrowerDrop code s).after s).pending = s.pending := by
  unfold decideGrowerDrop; repeat' split
  all_goals simp

@[simp] theorem decideGrowerQuery_pending (code : Nat) :
    ((decideGrowerQuery code s).after s).pending = s.pending := by
  unfold decideGrowerQuery; repeat' split
  all_goals simp

@[simp] theorem decideSampleClose_pending (n : Nat) : ((decideSampleClose n s).after s).pending = s.pending := by
  unfold decideSampleClose; dsimp only; repeat' split
  all_goals simp

@[simp] theorem decideSampleResult_pending (n brix pol : Nat) :
    ((decideSampleResult n brix pol s).after s).pending = s.pending := by
  unfold decideSampleResult; dsimp only; repeat' split
  all_goals simp

@[simp] theorem decideSampleVoid_pending (n : Nat) : ((decideSampleVoid n s).after s).pending = s.pending := by
  unfold decideSampleVoid; repeat' split
  all_goals simp

@[simp] theorem decideWindowQuery_pending (n : Nat) : ((decideWindowQuery n s).after s).pending = s.pending := by
  unfold decideWindowQuery; repeat' split
  all_goals simp

@[simp] theorem decideBind_pending (bridge pass vehicle cls insp wish grower delivery : Nat) :
    ((decideBind bridge pass vehicle cls insp wish grower delivery s).after s).pending = s.pending := by
  unfold decideBind; dsimp only; repeat' split
  all_goals simp

@[simp] theorem decideUnbind_pending (bridge : Nat) : ((decideUnbind bridge s).after s).pending = s.pending := by
  unfold decideUnbind; repeat' split
  all_goals simp

@[simp] theorem decideBridgeQuery_pending (bridge : Nat) :
    ((decideBridgeQuery bridge s).after s).pending = s.pending := by
  unfold decideBridgeQuery; repeat' split
  all_goals simp

@[simp] theorem decideClearFault_pending (bridge : Nat) :
    ((decideClearFault bridge s).after s).pending = s.pending := by
  unfold decideClearFault; dsimp only; repeat' split
  all_goals simp

@[simp] theorem decideZeroNow_pending (bridge : Nat) : ((decideZeroNow bridge s).after s).pending = s.pending := by
  unfold decideZeroNow; repeat' split
  all_goals simp

@[simp] theorem decideConfigOpen_pending (channel : Nat) :
    ((decideConfigOpen channel s).after s).pending = s.pending := by
  unfold decideConfigOpen; dsimp only; repeat' split
  all_goals simp

@[simp] theorem decideConfigSet_pending (channel : Nat) (es : List (Nat × Nat)) :
    ((decideConfigSet channel es s).after s).pending = s.pending := by
  unfold decideConfigSet; dsimp only; repeat' split
  all_goals simp

@[simp] theorem decideConfigApply_pending (channel : Nat) :
    ((decideConfigApply channel s).after s).pending = s.pending := by
  unfold decideConfigApply; dsimp only; repeat' split
  all_goals simp

@[simp] theorem decideConfigDiscard_pending (channel : Nat) :
    ((decideConfigDiscard channel s).after s).pending = s.pending := by
  unfold decideConfigDiscard; dsimp only; repeat' split
  all_goals simp

@[simp] theorem decideCalBegin_pending (channel : Nat) :
    ((decideCalBegin channel s).after s).pending = s.pending := by
  unfold decideCalBegin; dsimp only; repeat' split
  all_goals simp

@[simp] theorem decideCalZero_pending (channel : Nat) : ((decideCalZero channel s).after s).pending = s.pending := by
  unfold decideCalZero; repeat' split
  all_goals simp

@[simp] theorem decideCalSpan_pending (channel mass : Nat) :
    ((decideCalSpan channel mass s).after s).pending = s.pending := by
  unfold decideCalSpan; dsimp only; repeat' split
  all_goals simp

@[simp] theorem State.calAbandon_pending (b : BridgeNo) : ((s.calAbandon b).after s).pending = s.pending := by
  simp [State.calAbandon]

@[simp] theorem State.calCommit_pending (b : BridgeNo) (x : Session) (zero span : Int) (mass : Nat) :
    ((s.calCommit b x zero span mass).after s).pending = s.pending := by
  unfold State.calCommit; dsimp only; split <;> simp

@[simp] theorem decideCalEnd_pending (channel ending : Nat) :
    ((decideCalEnd channel ending s).after s).pending = s.pending := by
  unfold decideCalEnd; repeat' split
  all_goals simp

@[simp] theorem decideCalDefault_pending (channel : Nat) :
    ((decideCalDefault channel s).after s).pending = s.pending := by
  unfold decideCalDefault; dsimp only; repeat' split
  all_goals simp

@[simp] theorem decideLineSet_pending (line : Nat) (es : List (Nat × Nat)) :
    ((decideLineSet line es s).after s).pending = s.pending := by
  unfold decideLineSet; dsimp only; repeat' split
  all_goals simp

@[simp] theorem decideProfileLoad_pending (profile : Nat) (es : List (Nat × Nat)) :
    ((decideProfileLoad profile es s).after s).pending = s.pending := by
  unfold decideProfileLoad; dsimp only; repeat' split
  all_goals simp

@[simp] theorem decideProfileRead_pending (profile : Nat) :
    ((decideProfileRead profile s).after s).pending = s.pending := by
  unfold decideProfileRead; repeat' split
  all_goals simp

@[simp] theorem decideShiftMark_pending (letter : Nat) :
    ((decideShiftMark letter s).after s).pending = s.pending := by
  unfold decideShiftMark; dsimp only; repeat' split
  all_goals simp

@[simp] theorem decideSeasonOpen_pending : ((decideSeasonOpen s).after s).pending = s.pending := by
  unfold decideSeasonOpen; dsimp only; repeat' split
  all_goals simp

@[simp] theorem decideExportMark_pending (n : Nat) : ((decideExportMark n s).after s).pending = s.pending := by
  unfold decideExportMark; dsimp only; repeat' split
  all_goals simp

@[simp] theorem decideStoreRead_pending (n : Nat) : ((decideStoreRead n s).after s).pending = s.pending := by
  unfold decideStoreRead; repeat' split
  all_goals simp

@[simp] theorem decideTimeSet_pending (t : MillTime) : ((decideTimeSet t s).after s).pending = s.pending := by
  unfold decideTimeSet; dsimp only; repeat' split
  all_goals simp

@[simp] theorem decideReportStart_pending (set : Nat) (tag : Byte) :
    ((decideReportStart set tag s).after s).pending = s.pending := by
  unfold decideReportStart; repeat' split
  all_goals simp

@[simp] theorem decideReportStop_pending (slot : Nat) : ((decideReportStop slot s).after s).pending = s.pending := by
  unfold decideReportStop; repeat' split
  all_goals simp

@[simp] theorem decideLinkSet_pending (minRun maxRun : Nat) :
    ((decideLinkSet minRun maxRun s).after s).pending = s.pending := by
  unfold decideLinkSet; dsimp only; repeat' split
  all_goals simp

@[simp] theorem decideStatus_pending : ((decideStatus s).after s).pending = s.pending := by
  simp [decideStatus]

@[simp] theorem decideAttention_pending : ((decideAttention s).after s).pending = s.pending := by
  simp [decideAttention]

/-- No owner's decision writes the queue. -/

@[simp] theorem decideRequest_pending (r : Request) (tag : Byte) :
    ((decideRequest r tag s).after s).pending = s.pending := by
  cases r <;> simp [decideRequest]

/-! ### The link -/

@[simp] theorem State.answer_pending (kind tag : Byte) (d : Decision) :
    (s.answer kind tag d).pending = (d.after s).pending := by rw [State.answer_eq]

@[simp] theorem State.endFrame_pending : s.endFrame.pending = s.pending := by
  unfold State.endFrame; dsimp only; repeat' split
  all_goals simp

@[simp] theorem State.dispatch_pending (f : Frame) : (s.dispatch f).pending = s.pending := by
  unfold State.dispatch; repeat' split
  all_goals simp

@[simp] theorem State.settle_pending (fuel : Nat) : ∀ s : State, (s.settle fuel).pending = s.pending := by
  induction fuel with
  | zero => exact State.pump_pending
  | succ fuel ih =>
    intro s
    unfold State.settle
    dsimp only
    repeat' split
    all_goals simp [ih]

@[simp] theorem State.settleLink_pending : s.settleLink.pending = s.pending := State.settle_pending _ s

@[simp] theorem State.receiveFrame_pending (f : Frame) : (s.receiveFrame f).pending = s.pending := by
  unfold State.receiveFrame; dsimp only; repeat' split
  all_goals simp

@[simp] theorem State.feedByte_pending (b : Byte) : (s.feedByte b).pending = s.pending := by
  unfold State.feedByte; dsimp only; repeat' split
  all_goals simp

@[simp] theorem State.gap_pending : s.gap.pending = s.pending := rfl

@[simp] theorem State.badLength_pending (l : Byte) : (s.badLength l).pending = s.pending := by
  unfold State.badLength; repeat' split
  all_goals simp

@[simp] theorem State.submit_pending (r : Request) (tag : Byte) : (s.submit r tag).pending = s.pending := by
  unfold State.submit; repeat' split
  all_goals simp

end

end Sys2Proof.Machine

/-! SUPPORT. RESTART and the reset state: what the work after a fresh start leaves alone, how each bridge comes up, and
which slot the scan frees. -/
namespace Sys2Proof.Machine

open Sys2Proof

section

/-! ## What the work after a fresh start leaves alone -/

/-- What no write that is asked for or started touches: the marks of the store and where it stands (R168, R179). -/
def Store.standing (x : Store) : Store :=
  { Store.factory with
      formatMark := x.formatMark, lastSequence := x.lastSequence, exportMark := x.exportMark, lastSlot := x.lastSlot }

/-- What notices, flags but RESTARTED, and an idle transmitter's next notice leave of the link. -/
def Link.standing (l : Link) : Link :=
  { l with
      notices := [], noticeNumber := 0, sending := none
      flags := { Attention.clear with restarted := ⟨l.flags.restarted.standing, false⟩ } }

/-- A lamp's setting, whatever it shows. -/
def Lamp.dark (x : Lamp) : Lamp := { x with on := false }

/-- What the lamps' driving and AL leave of the lines. -/
def FieldLines.standing (l : FieldLines) : FieldLines :=
  { l with al := false, entryLamp := l.entryLamp.map Lamp.dark, exitLamp := l.exitLamp.map Lamp.dark }

/-- What the scan, the owners' part and the alarms of a RESTART leave of the state, the bridges' states and the windows'
records apart. -/
def State.standing (s : State) : State :=
  { s with
      bridges := Quad.const (Bridge.factory 0), windows := { s.windows with records := [] }
      store := s.store.standing, link := s.link.standing, lines := s.lines.standing }

theorem State.standing_fields {s t : State} (h : s.standing = t.standing) :
    s.channels = t.channels ∧ s.dt = t.dt ∧ s.vehicles = t.vehicles ∧ s.feed = t.feed ∧
      s.growers = t.growers ∧ s.shift = t.shift ∧ s.pending = t.pending ∧
      s.windows.counter = t.windows.counter ∧ s.windows.pacing = t.windows.pacing := by
  simp only [State.standing, State.mk.injEq, WindowTable.mk.injEq] at h
  tauto

theorem State.store_of_standing {s t : State} (h : s.standing = t.standing) :
    s.store.formatMark = t.store.formatMark ∧ s.store.lastSequence = t.store.lastSequence ∧
      s.store.exportMark = t.store.exportMark ∧ s.store.lastSlot = t.store.lastSlot := by
  simp only [State.standing, Store.standing, State.mk.injEq, Store.mk.injEq] at h
  tauto

theorem State.link_of_standing {s t : State} (h : s.standing = t.standing) :
    s.link.minRun = t.link.minRun ∧ s.link.maxRun = t.link.maxRun ∧ s.link.receiver = t.link.receiver ∧
      s.link.input = t.link.input ∧ s.link.replies = t.link.replies ∧ s.link.slot1 = t.link.slot1 ∧
      s.link.slot2 = t.link.slot2 ∧ s.link.turn = t.link.turn ∧
      s.link.flags.restarted.standing = t.link.flags.restarted.standing := by
  simp only [State.standing, Link.standing, State.mk.injEq, Link.mk.injEq, Attention.mk.injEq, FlagBits.mk.injEq] at h
  tauto

theorem State.lines_of_standing {s t : State} (h : s.standing = t.standing) :
    s.lines.standing = t.lines.standing := by
  simp only [State.standing, State.mk.injEq] at h
  tauto

theorem FieldLines.outputs_of_standing {l m : FieldLines} (h : l.standing = m.standing) :
    l.command = m.command ∧ l.sc = m.sc ∧ l.cpMass = m.cpMass ∧ l.jpMass = m.jpMass ∧ l.wpMass = m.wpMass := by
  simp only [FieldLines.standing, FieldLines.mk.injEq] at h
  tauto

theorem FieldLines.input_of_standing {l m : FieldLines} (h : l.standing = m.standing) (line : InputLine) :
    l.input line = m.input line := by
  have hi (k : FieldLines) : k.input line = k.standing.input line := by cases line <;> rfl
  rw [hi l, hi m, h]

theorem FieldLines.safe_of_standing {l m : FieldLines} (h : l.standing = m.standing) (b : BridgeNo) :
    (l.entryLamp.get b).safe = (m.entryLamp.get b).safe ∧ (l.exitLamp.get b).safe = (m.exitLamp.get b).safe := by
  have hs (k : FieldLines) : (k.entryLamp.get b).safe = (k.standing.entryLamp.get b).safe ∧
      (k.exitLamp.get b).safe = (k.standing.exitLamp.get b).safe := by
    cases b <;> exact ⟨rfl, rfl⟩
  rw [(hs l).1, (hs l).2, (hs m).1, (hs m).2, h]
  exact ⟨rfl, rfl⟩

variable (s : State)

/-! ### Flags, notices, lamps and bridges -/

theorem State.raise_standing {f : Flag} (h : f ≠ .restarted) : (s.raise f).standing = s.standing := by
  cases f with
  | restarted => exact absurd rfl h
  | _ => rfl

@[simp] theorem State.notify_standing (body : NoticeBody) : (s.notify body).standing = s.standing := by
  unfold State.notify; dsimp only; split
  · rfl
  · split
    · split <;> rfl
    · rfl

@[simp] theorem Lamp.dark_drive (l : Lamp) (d : LampDemand) : (l.drive d).dark = l.dark := by
  obtain ⟨safe, on⟩ := l
  cases d <;> cases safe <;> rfl

theorem Quad.map_set_of_eq {α β : Type} (f : α → β) (q : Quad α) (b : BridgeNo) {a : α}
    (h : f a = f (q.get b)) : (q.set b a).map f = q.map f := by
  cases b <;> simp [Quad.map, Quad.set, h, Quad.get]

@[simp] theorem State.driveLamps_standing (b : BridgeNo) : (s.driveLamps b).standing = s.standing := by
  simp only [State.standing, State.driveLamps, FieldLines.standing,
    Quad.map_set_of_eq Lamp.dark _ _ (Lamp.dark_drive _ _)]

@[simp] theorem State.modBridge_standing (b : BridgeNo) (f : Bridge → Bridge) :
    (s.modBridge b f).standing = s.standing :=
  State.driveLamps_standing _ b

@[simp] theorem State.enterLocked_standing (b : BridgeNo) (cause : LockCause) (x : Option Binding) :
    (s.enterLocked b cause x).standing = s.standing := by
  unfold State.enterLocked
  rw [State.raise_standing _ (by decide), State.notify_standing, State.modBridge_standing]

/-! ### The store's writes -/

@[simp] theorem Store.moveUp_standing (x : Store) : x.moveUp.standing = x.standing := by
  unfold Store.moveUp
  repeat' split
  all_goals rfl

@[simp] theorem Store.place_standing (x : Store) (r : WriteRequest) : (x.place r).standing = x.standing := by
  unfold Store.place
  repeat' split
  all_goals rfl

theorem Store.choose_standing {x y : Store} {r : WriteRequest} (h : x.choose = some (r, y)) :
    y.standing = x.standing := by
  unfold Store.choose at h
  repeat' split at h
  all_goals cases h
  all_goals first | rfl | exact Store.moveUp_standing _

theorem State.startNext_store_standing : s.startNext.store.standing = s.store.standing := by
  unfold State.startNext
  split
  · rfl
  · split
    · rfl
    · split
      · rfl
      · next h => exact (Store.choose_standing h :)

/-- A write that is asked for touches the store alone. -/
theorem State.requestWrite_only (r : Requester) (body : RecordBody) :
    s.requestWrite r body = { s with store := (s.requestWrite r body).store } := by
  unfold State.requestWrite State.startNext
  repeat' split
  all_goals rfl

@[simp] theorem State.requestWrite_standing (r : Requester) (body : RecordBody) :
    (s.requestWrite r body).standing = s.standing := by
  have hst : (s.requestWrite r body).store.standing = s.store.standing :=
    (State.startNext_store_standing _).trans (Store.place_standing _ _)
  rw [State.requestWrite_only]
  simp only [State.standing, hst]

/-! ### The scan -/

variable {s}

/-- The scan's tests mark slots bad, and at their end its pattern is written (R181): what these two keep, they keep. -/
theorem State.testSlots_keeps {P : State → Prop} (hb : ∀ t slot, P t → P (t.markBad slot))
    (hp : ∀ t, P t → P t.writePattern) (n : Nat) (hs : P s) : P (s.testSlots n).1 := by
  induction n generalizing s with
  | zero => exact hp s hs
  | succ n ih =>
    rw [State.testSlots]
    split
    · exact ih (hb s _ hs)
    · exact hp s hs

/-- The store scanned and counted (R181, R182). -/
def State.scanned (s : State) (failing : Nat) : State := (s.scan failing).1.recount (s.scan failing).2

theorem State.scanned_keeps {P : State → Prop} (hb : ∀ t slot, P t → P (t.markBad slot))
    (hp : ∀ t, P t → P t.writePattern) (hc : ∀ t good, P t → P (t.recount good)) (n : Nat) (hs : P s) :
    P (s.scanned n) := by
  refine hc _ _ ?_
  unfold State.scan
  split
  · exact State.testSlots_keeps hb hp n hs
  · exact hs

@[simp] theorem State.scanned_standing (n : Nat) : (s.scanned n).standing = s.standing :=
  State.scanned_keeps (P := fun t => t.standing = s.standing)
    (fun _ _ h => (State.raise_standing _ (by decide)).trans h) (fun _ h => h) (fun _ _ h => h) n rfl

@[simp] theorem State.scanned_windows (n : Nat) : (s.scanned n).windows = s.windows :=
  State.scanned_keeps (P := fun t => t.windows = s.windows) (fun _ _ h => h) (fun _ h => h) (fun _ _ h => h) n rfl

@[simp] theorem State.scanned_bridges (n : Nat) : (s.scanned n).bridges = s.bridges :=
  State.scanned_keeps (P := fun t => t.bridges = s.bridges) (fun _ _ h => h) (fun _ h => h) (fun _ _ h => h) n rfl

/-! ### The windows that a RESTART voids -/

/-- A RESTART voids windows and raises SAMPLE_EXPIRED (R69): what these two keep, it keeps. -/
theorem State.settleWindows_keeps {P : State → Prop} (hm : ∀ t n f, P t → P (t.markVoid n f))
    (hr : ∀ t, P t → P (t.raise .sampleExpired)) (hs : P s) : P s.settleWindows := by
  have hc (t : State) (n : Nat) (ht : P t) : P (t.voidLostCan n) := by
    unfold State.voidLostCan
    repeat' split
    · exact hm _ _ _ ht
    · exact ht
    · exact ht
  have he (t : State) (n : Nat) (ht : P t) : P (t.voidExpired n) := by
    unfold State.voidExpired
    repeat' split
    · exact hm _ _ _ (hr _ ht)
    · exact ht
    · exact ht
  unfold State.settleWindows
  refine List.foldlRecOn (motive := P) _ _ ?_ fun t ht n _ => he t n ht
  exact List.foldlRecOn (motive := P) _ _ hs fun t ht n _ => hc t n ht

@[simp] theorem State.settleWindows_standing : s.settleWindows.standing = s.standing :=
  State.settleWindows_keeps (P := fun t => t.standing = s.standing) (fun _ _ _ h => h) (fun _ h => h) rfl

@[simp] theorem State.settleWindows_store : s.settleWindows.store = s.store :=
  State.settleWindows_keeps (P := fun t => t.store = s.store) (fun _ _ _ h => h) (fun _ h => h) rfl

@[simp] theorem State.settleWindows_bridges : s.settleWindows.bridges = s.bridges :=
  State.settleWindows_keeps (P := fun t => t.bridges = s.bridges) (fun _ _ _ h => h) (fun _ h => h) rfl

theorem State.markVoid_window?_ne {n m : Nat} (h : m ≠ n) (f : Window → Window) :
    (s.markVoid n f).window? m = s.window? m := by
  simp [State.window?, State.markVoid, Table.find_modify_other _ _ h]

/-- A window that is not CLOSED keeps its record (R69). -/
theorem State.voidLostCan_window? {n m : Nat} {w : Window} (h : s.window? m = some w) (hw : w.state ≠ .closed) :
    (s.voidLostCan n).window? m = some w := by
  by_cases hn : m = n
  · subst hn
    simp [State.voidLostCan, h, hw]
  · unfold State.voidLostCan
    repeat' split
    · exact (State.markVoid_window?_ne hn _).trans h
    · exact h
    · exact h

theorem State.deadlinePassed_of_not_closed {w : Window} (hw : w.state ≠ .closed) : s.deadlinePassed w = false := by
  unfold State.deadlinePassed
  split
  · next hc _ => exact absurd hc hw
  · rfl

theorem State.voidExpired_window? {n m : Nat} {w : Window} (h : s.window? m = some w) (hw : w.state ≠ .closed) :
    (s.voidExpired n).window? m = some w := by
  by_cases hn : m = n
  · subst hn
    simp [State.voidExpired, h, State.deadlinePassed_of_not_closed hw]
  · unfold State.voidExpired
    repeat' split
    · exact (State.markVoid_window?_ne hn _).trans h
    · exact h
    · exact h

theorem State.settleWindows_window? {m : Nat} {w : Window} (h : s.window? m = some w) (hw : w.state ≠ .closed) :
    s.settleWindows.window? m = some w := by
  unfold State.settleWindows
  refine List.foldlRecOn (motive := fun t : State => t.window? m = some w) _ _ ?_
    fun _ ht _ _ => State.voidExpired_window? ht hw
  exact List.foldlRecOn (motive := fun t : State => t.window? m = some w) _ _ h
    fun _ ht _ _ => State.voidLostCan_window? ht hw

variable (s)

/-! ### The writes that are asked for again -/

theorem State.askDelivery_cases (n : Nat) :
    s.askDelivery n = s ∨ ∃ r body, s.askDelivery n = s.requestWrite r body := by
  unfold State.askDelivery State.handOver
  repeat' split
  all_goals first | exact .inl rfl | exact .inr ⟨_, _, rfl⟩

theorem State.askWindow_cases (n : Nat) : s.askWindow n = s ∨ ∃ r body, s.askWindow n = s.requestWrite r body := by
  unfold State.askWindow State.requestWindowRecord
  repeat' split
  all_goals first | exact .inl rfl | exact .inr ⟨_, _, rfl⟩

theorem State.askShift_cases : s.askShift = s ∨ ∃ r body, s.askShift = s.requestWrite r body := by
  unfold State.askShift
  repeat' split
  all_goals first | exact .inl rfl | exact .inr ⟨_, _, rfl⟩

theorem State.askChannel_cases (b : BridgeNo) :
    s.askChannel b = s ∨ ∃ r body, s.askChannel b = s.requestWrite r body := by
  unfold State.askChannel
  repeat' split
  all_goals first | exact .inl rfl | exact .inr ⟨_, _, rfl⟩

variable {s}

/-- The owners only ask for writes (R182): what every write that is asked for keeps, they keep. -/
theorem State.askAgain_keeps {P : State → Prop} (hw : ∀ t r body, P t → P (t.requestWrite r body)) (hs : P s) :
    P s.askAgain := by
  have keeps : ∀ {t u : State}, (u = t ∨ ∃ r body, u = t.requestWrite r body) → P t → P u := by
    rintro t u (rfl | ⟨r, body, rfl⟩) ht
    · exact ht
    · exact hw t r body ht
  have hd := List.foldlRecOn s.dt.records.keys State.askDelivery hs fun t ht n _ => keeps (t.askDelivery_cases n) ht
  have hv (ns : List Nat) := List.foldlRecOn ns State.askWindow hd fun t ht n _ => keeps (t.askWindow_cases n) ht
  unfold State.askAgain
  exact List.foldlRecOn (motive := P) bridgeList State.askChannel (keeps (State.askShift_cases _) (hv _))
    fun t ht b _ => keeps (t.askChannel_cases b) ht

@[simp] theorem State.askAgain_standing : s.askAgain.standing = s.standing :=
  State.askAgain_keeps (P := fun t => t.standing = s.standing)
    (fun t r body h => (t.requestWrite_standing r body).trans h) rfl

@[simp] theorem State.askAgain_windows : s.askAgain.windows = s.windows :=
  State.askAgain_keeps (P := fun t => t.windows = s.windows)
    (fun t r body h => (t.requestWrite_windows r body).trans h) rfl

@[simp] theorem State.askAgain_bridges : s.askAgain.bridges = s.bridges :=
  State.askAgain_keeps (P := fun t => t.bridges = s.bridges)
    (fun t r body h => (t.requestWrite_bridges r body).trans h) rfl

/-! ### The bridges, the alarms and the link -/

/-- The four bridges take their states. -/
def State.bridgesComeUp (s : State) : State := bridgeList.foldl State.bridgeComesUp s

/-- A bridge comes up by entering LOCKED or by driving its lamps (R118): what these two keep, the four bridges keep. -/
theorem State.bridgesComeUp_keeps {P : State → Prop} (hl : ∀ t b cause, P t → P (t.enterLocked b cause none))
    (hd : ∀ t b, P t → P (t.driveLamps b)) (hs : P s) : P s.bridgesComeUp := by
  refine List.foldlRecOn (motive := P) _ _ hs fun t ht b _ => ?_
  unfold State.bridgeComesUp
  split
  · exact hl t b _ ht
  · exact hd t b ht

@[simp] theorem State.bridgesComeUp_standing : s.bridgesComeUp.standing = s.standing :=
  State.bridgesComeUp_keeps (P := fun t => t.standing = s.standing)
    (fun t b cause h => (t.enterLocked_standing b cause none).trans h)
    (fun t b h => (t.driveLamps_standing b).trans h) rfl

@[simp] theorem State.enterLocked_windows (b : BridgeNo) (cause : LockCause) (x : Option Binding) :
    (s.enterLocked b cause x).windows = s.windows := by simp [State.enterLocked]

@[simp] theorem State.enterLocked_store (b : BridgeNo) (cause : LockCause) (x : Option Binding) :
    (s.enterLocked b cause x).store = s.store := by simp [State.enterLocked]

@[simp] theorem State.bridgesComeUp_windows : s.bridgesComeUp.windows = s.windows :=
  State.bridgesComeUp_keeps (P := fun t => t.windows = s.windows)
    (fun t b cause h => (t.enterLocked_windows b cause none).trans h) (fun _ _ h => h) rfl

@[simp] theorem State.bridgesComeUp_store : s.bridgesComeUp.store = s.store :=
  State.bridgesComeUp_keeps (P := fun t => t.store = s.store)
    (fun t b cause h => (t.enterLocked_store b cause none).trans h) (fun _ _ h => h) rfl

/-- The alarms of the store and of an unset clock (R181, R183), before the link sends. -/
def State.alarmed (s : State) : State := s.storeComesUp.clockMinute

/-- These alarms are a notice and flags, RESTARTED not among them: what notices and other flags keep, they keep. -/
theorem State.alarmed_keeps {P : State → Prop} (hn : ∀ t body, P t → P (t.notify body))
    (hr : ∀ t f, f ≠ .restarted → P t → P (t.raise f)) (hs : P s) : P s.alarmed := by
  have hstore : P s.storeComesUp := by
    unfold State.storeComesUp
    split
    · exact hs
    · exact hr _ _ (by decide) (hn _ _ hs)
    · exact hr _ _ (by decide) (hn _ _ hs)
  unfold State.alarmed State.clockMinute
  split
  · exact hstore
  · exact hr _ _ (by decide) hstore

@[simp] theorem State.alarmed_standing : s.alarmed.standing = s.standing :=
  State.alarmed_keeps (P := fun t => t.standing = s.standing) (fun t body h => (t.notify_standing body).trans h)
    (fun _ _ hf h => (State.raise_standing _ hf).trans h) rfl

@[simp] theorem State.alarmed_windows : s.alarmed.windows = s.windows :=
  State.alarmed_keeps (P := fun t => t.windows = s.windows)
    (fun t body h => (t.notify_windows body).trans h) (fun _ _ _ h => h) rfl

@[simp] theorem State.alarmed_store : s.alarmed.store = s.store :=
  State.alarmed_keeps (P := fun t => t.store = s.store)
    (fun t body h => (t.notify_store body).trans h) (fun _ _ _ h => h) rfl

@[simp] theorem State.alarmed_bridges : s.alarmed.bridges = s.bridges :=
  State.alarmed_keeps (P := fun t => t.bridges = s.bridges)
    (fun t body h => (t.notify_bridges body).trans h) (fun _ _ _ h => h) rfl

variable (s)

/-- With no reply and no turn the arbiter can only take a notice. -/
theorem State.pump_standing (hr : s.link.replies = []) (ht : s.link.turn = none) : s.pump.standing = s.standing := by
  unfold State.pump
  simp only [hr, ht]
  split
  · rfl
  · split <;> simp [State.standing, State.transmit, Link.standing, hr, ht]

/-! ### The slot that the test pattern was written over -/

/-- The next good slot holds no record. -/
def Store.nextSlotFree (x : Store) : Prop := Table.find x.slots (x.nextSlot x.lastSlot) = none

/-- A write that starts takes that slot, whose record is held no more (R175). -/
theorem State.beginWrite_nextSlotFree (r : WriteRequest) : (s.beginWrite r).store.nextSlotFree :=
  (Table.find_drop _ _ _).trans (if_pos rfl)

variable {s}

theorem State.startNext_nextSlotFree (h : s.store.nextSlotFree) : s.startNext.store.nextSlotFree := by
  unfold State.startNext
  split
  · exact h
  · split
    · exact h
    · split
      · exact h
      · exact State.beginWrite_nextSlotFree _ _

theorem Store.place_nextSlotFree {x : Store} (h : x.nextSlotFree) (r : WriteRequest) : (x.place r).nextSlotFree := by
  unfold Store.place
  repeat' split
  all_goals exact h

theorem State.requestWrite_nextSlotFree (h : s.store.nextSlotFree) (r : Requester) (body : RecordBody) :
    (s.requestWrite r body).store.nextSlotFree :=
  State.startNext_nextSlotFree (s := { s with store := s.store.place ⟨r, body⟩ }) (Store.place_nextSlotFree h _)

/-! ### The state a bridge comes up in -/

/-- A bridge with the state that a standing condition, or none, gives it (R118). -/
def Bridge.takeState (x : Bridge) : Option LockCause → Bridge
  | some cause => { x with
      state := .locked, lockCause := some cause, pendingCause := none, entry := none, zeroRequest := false
      bindTimer := none }
  | none => x

variable (s)

@[simp] theorem State.enterLocked_bridge (b : BridgeNo) (cause : LockCause) (x : Option Binding) :
    (s.enterLocked b cause x).bridge b = (s.bridge b).takeState (some cause) := by
  simp only [State.enterLocked, State.bridge, State.raise_bridges, State.notify_bridges]
  exact State.modBridge_bridge b _

theorem State.enterLocked_bridge_ne {b c : BridgeNo} (h : c ≠ b) (cause : LockCause) (x : Option Binding) :
    (s.enterLocked b cause x).bridge c = s.bridge c := by
  simp only [State.enterLocked, State.bridge, State.raise_bridges, State.notify_bridges]
  exact State.modBridge_bridge_ne _ h

theorem State.bridgeComesUp_bridge (b : BridgeNo) :
    (s.bridgeComesUp b).bridge b = (s.bridge b).takeState (s.firstStanding b) := by
  unfold State.bridgeComesUp
  split
  · next cause h => rw [State.enterLocked_bridge, h]
  · next h => rw [h]; rfl

theorem State.bridgeComesUp_bridge_ne {b c : BridgeNo} (h : c ≠ b) : (s.bridgeComesUp b).bridge c = s.bridge c := by
  unfold State.bridgeComesUp
  split
  · exact State.enterLocked_bridge_ne s h _ _
  · rfl

@[simp] theorem State.bridgeComesUp_channel (b c : BridgeNo) : (s.bridgeComesUp b).channel c = s.channel c := by
  unfold State.bridgeComesUp
  split <;> simp [State.channel, State.enterLocked]

/-- The standing conditions of a bridge are its own and its channel's (R108). -/
theorem State.firstStanding_congr {s t : State} {b : BridgeNo} (hb : s.bridge b = t.bridge b)
    (hc : s.channel b = t.channel b) : s.firstStanding b = t.firstStanding b := by
  have : s.stands b = t.stands b := by
    funext cause
    cases cause <;> simp [State.stands, hb, hc]
  rw [State.firstStanding, State.firstStanding, this]

theorem State.bridgeComesUp_firstStanding_ne {b c : BridgeNo} (h : c ≠ b) :
    (s.bridgeComesUp b).firstStanding c = s.firstStanding c :=
  State.firstStanding_congr (State.bridgeComesUp_bridge_ne s h) (State.bridgeComesUp_channel s b c)

theorem State.foldl_bridgeComesUp_bridge_of_notMem {b : BridgeNo} {l : List BridgeNo} (h : b ∉ l) :
    (l.foldl State.bridgeComesUp s).bridge b = s.bridge b :=
  List.foldlRecOn (motive := fun t : State => t.bridge b = s.bridge b) l _ rfl fun t ht _ hc =>
    (State.bridgeComesUp_bridge_ne t (ne_of_mem_of_not_mem hc h).symm).trans ht

/-- Each bridge comes up by itself: the others' coming up changes neither it nor its channel. -/
theorem State.foldl_bridgeComesUp_bridge {b : BridgeNo} {l : List BridgeNo} (hl : l.Nodup) (hb : b ∈ l) (s : State) :
    (l.foldl State.bridgeComesUp s).bridge b = (s.bridge b).takeState (s.firstStanding b) := by
  induction l generalizing s with
  | nil => cases hb
  | cons c l ih =>
    obtain ⟨hc, hl⟩ := List.nodup_cons.mp hl
    rw [List.foldl_cons]
    by_cases h : b = c
    · subst h
      rw [State.foldl_bridgeComesUp_bridge_of_notMem _ hc, State.bridgeComesUp_bridge]
    · rw [ih hl ((List.mem_cons.mp hb).resolve_left h), State.bridgeComesUp_bridge_ne s h,
        State.bridgeComesUp_firstStanding_ne s h]

theorem State.bridgesComeUp_bridge (b : BridgeNo) :
    s.bridgesComeUp.bridge b = (s.bridge b).takeState (s.firstStanding b) :=
  State.foldl_bridgeComesUp_bridge (by decide) (by cases b <;> decide) s

/-- With no wire-off and both persistence timers stopped, only the configuration and the calibration can stand in the
way (R108, R118). -/
theorem State.firstStanding_of_fresh {s : State} {b : BridgeNo} (hw : (s.channel b).wireOff = false)
    (ho : (s.bridge b).overTimer = .stopped) (hu : (s.bridge b).underTimer = .stopped) :
    s.firstStanding b =
      if (s.channel b).active = ChannelConfig.allZero then some .unconfigured
      else if (s.channel b).cal.valid then none else some .calInvalid := by
  by_cases ha : (s.channel b).active = ChannelConfig.allZero <;> cases hv : (s.channel b).cal.valid <;>
    simp [State.firstStanding, standingOrder, State.stands, hw, ho, hu, ha, hv]

/-- A bridge set afresh that takes its state: what R118 gives every bridge, and its cause (R108). -/
theorem Bridge.takeState_comeUp (zero : Int) (deadline : Nat) (cause : Option LockCause) :
    let x := (Bridge.comeUp zero deadline).takeState cause
    x.binding = none ∧ x.present = false ∧ x.backlog = 0 ∧ x.zeroDue = true ∧ x.currentZero = zero ∧
      x.lockCause = cause ∧ x.state = if x.lockCause.isSome then .locked else .idle := by
  cases cause <;> exact ⟨rfl, rfl, rfl, rfl, rfl, rfl, rfl⟩

/-! ### The phases of a RESTART -/

/-- The store scanned, its windows settled and the lost writes asked for again, after which the bridges come up. -/
def State.ownersUp (s : State) (failing : Nat) : State := (s.scanned failing).settleWindows.askAgain

/-- A RESTART of formatted memory, up to what the link sends at its end. -/
def State.started (s : State) (minutes seconds : Nat) (stopped : Bool) (failing : Nat) : State :=
  ((s.comeUp minutes seconds stopped).ownersUp failing).bridgesComeUp.alarmed

theorem State.restart_formatted {s : State} (minutes seconds : Nat) (stopped : Bool) (failing : Nat)
    (h : s.store.formatMark = true) :
    s.restart minutes seconds stopped failing = (s.started minutes seconds stopped failing).settleLink := by
  unfold State.restart
  rw [if_neg (by simp [h])]
  rfl

@[simp] theorem State.ownersUp_standing (failing : Nat) : (s.ownersUp failing).standing = s.standing := by
  simp [State.ownersUp]

@[simp] theorem State.ownersUp_bridges (failing : Nat) : (s.ownersUp failing).bridges = s.bridges := by
  simp [State.ownersUp]

theorem State.ownersUp_window? {s : State} {n : Nat} {w : Window} (failing : Nat) (h : s.window? n = some w)
    (hw : w.state ≠ .closed) : (s.ownersUp failing).window? n = some w := by
  have hs : (s.scanned failing).window? n = some w := by rwa [State.window?, State.scanned_windows]
  rw [State.window?, State.ownersUp, State.askAgain_windows]
  exact State.settleWindows_window? hs hw

/-- A scan that finds its last record good writes its pattern over the next good slot (R181). -/
theorem State.ownersUp_nextSlotFree (failing : Nat) (h : s.store.lastRecordGood = true) :
    (s.ownersUp failing).store.nextSlotFree := by
  have hs : (s.scanned failing).store.nextSlotFree := by
    simp only [State.scanned, State.scan, h, if_true]
    exact State.testSlots_drops failing s
  exact State.askAgain_keeps (P := fun t => t.store.nextSlotFree)
    (fun _ r body ht => State.requestWrite_nextSlotFree ht r body) (by rwa [State.settleWindows_store])

/-- Every bridge takes its state from its own and its channel's conditions (R118). -/
theorem State.ownersUp_bridgesComeUp_bridge (failing : Nat) (b : BridgeNo) :
    (s.ownersUp failing).bridgesComeUp.bridge b = (s.bridge b).takeState (s.firstStanding b) := by
  have hb : (s.ownersUp failing).bridge b = s.bridge b := congrArg (Quad.get · b) (s.ownersUp_bridges failing)
  have hc : (s.ownersUp failing).channel b = s.channel b :=
    congrArg (Quad.get · b) (State.standing_fields (s.ownersUp_standing failing)).1
  rw [State.bridgesComeUp_bridge, State.firstStanding_congr hb hc, hb]

/-! ### The state after a RESTART -/

theorem recountGrowers_find (records : Table Delivery) (growers : Table Grower) (code : Nat) :
    Table.find (recountGrowers records growers) code = (Table.find growers code).map fun g =>
      { g with openCount := (records.filter fun p => p.2.grower == code).length } := by
  induction growers with
  | nil => rfl
  | cons p growers ih =>
    obtain ⟨k, g⟩ := p
    show Table.find ((k, _) :: recountGrowers records growers) code = _
    by_cases h : k = code
    · simp [Table.find, h]
    · simp [Table.find, h, ih]

@[simp] theorem FieldLines.comeUp_input (l : FieldLines) (line : InputLine) :
    l.comeUp.input line = (l.input line).comeUp := by
  cases line with
  | e n => exact Quad.get_map l.e Input.comeUp n
  | x n => exact Quad.get_map l.x Input.comeUp n
  | cp | jp | wp | tr | ss => rfl

theorem FieldLines.comeUp_safe (l : FieldLines) (b : BridgeNo) :
    (l.comeUp.entryLamp.get b).safe = (l.entryLamp.get b).safe ∧
      (l.comeUp.exitLamp.get b).safe = (l.exitLamp.get b).safe := by
  simp [FieldLines.comeUp]

section

variable (minutes seconds : Nat) (stopped : Bool) (failing : Nat)

@[simp] theorem State.comeUp_channel (b : BridgeNo) :
    (s.comeUp minutes seconds stopped).channel b = (s.channel b).comeUp := Quad.get_map s.channels Channel.comeUp b

theorem State.comeUp_bridge (b : BridgeNo) :
    ∃ deadline, (s.comeUp minutes seconds stopped).bridge b = Bridge.comeUp (s.channel b).cal.zeroCounts deadline :=
  ⟨_, (Quad.get_map (s.channels.map Channel.comeUp) _ b).trans (by rw [Quad.get_map]; rfl)⟩

/-- What can lock a bridge as it comes up: its configuration, else its calibration (R118). -/
theorem State.comeUp_firstStanding (b : BridgeNo) :
    (s.comeUp minutes seconds stopped).firstStanding b =
      if (s.channel b).active = ChannelConfig.allZero then some .unconfigured
      else if (s.channel b).cal.valid then none else some .calInvalid := by
  obtain ⟨deadline, hb⟩ := s.comeUp_bridge minutes seconds stopped b
  have h := State.firstStanding_of_fresh (s := s.comeUp minutes seconds stopped) (b := b)
    (by rw [State.comeUp_channel]; rfl) (by rw [hb]; rfl) (by rw [hb]; rfl)
  rwa [State.comeUp_channel] at h

variable {s}

@[simp] theorem State.started_standing :
    (s.started minutes seconds stopped failing).standing = (s.comeUp minutes seconds stopped).standing := by
  simp [State.started]

/-- After the fresh start no request and no reply waits and no turn is held, so the link's end of a RESTART is one
choice of the arbiter, among the notices (R193, R202). -/
theorem State.restart_eq_pump (h : s.store.formatMark = true) :
    s.restart minutes seconds stopped failing = (s.started minutes seconds stopped failing).pump := by
  obtain ⟨-, -, -, hinput, -⟩ := State.link_of_standing (s.started_standing minutes seconds stopped failing)
  rw [State.restart_formatted minutes seconds stopped failing h]
  exact State.settleLink_of_empty _ hinput

theorem State.restart_standing (h : s.store.formatMark = true) :
    (s.restart minutes seconds stopped failing).standing = (s.comeUp minutes seconds stopped).standing := by
  have hs := s.started_standing minutes seconds stopped failing
  obtain ⟨-, -, -, -, hreplies, -, -, hturn, -⟩ := State.link_of_standing hs
  rw [State.restart_eq_pump minutes seconds stopped failing h, State.pump_standing _ hreplies hturn, hs]

theorem State.restart_window? (h : s.store.formatMark = true) {n : Nat} {w : Window} (hn : s.window? n = some w)
    (hw : w.state ≠ .closed) : (s.restart minutes seconds stopped failing).window? n = some w := by
  have hu := State.ownersUp_window? (s := s.comeUp minutes seconds stopped) failing hn hw
  rw [State.window?] at hu
  have hs : (s.started minutes seconds stopped failing).windows =
      ((s.comeUp minutes seconds stopped).ownersUp failing).windows := by simp [State.started]
  rw [State.restart_eq_pump minutes seconds stopped failing h, State.window?, State.pump_windows, hs]
  exact hu

theorem State.restart_bridge (h : s.store.formatMark = true) (b : BridgeNo) :
    ∃ deadline, (s.restart minutes seconds stopped failing).bridge b =
      (Bridge.comeUp (s.channel b).cal.zeroCounts deadline).takeState
        (if (s.channel b).active = ChannelConfig.allZero then some .unconfigured
         else if (s.channel b).cal.valid then none else some .calInvalid) := by
  obtain ⟨deadline, hb⟩ := s.comeUp_bridge minutes seconds stopped b
  refine ⟨deadline, ?_⟩
  have hu := State.ownersUp_bridgesComeUp_bridge (s.comeUp minutes seconds stopped) failing b
  rw [State.comeUp_firstStanding, hb] at hu
  rw [State.restart_eq_pump minutes seconds stopped failing h, State.bridge, State.pump_bridges, State.started,
    State.alarmed_bridges]
  exact hu

theorem State.restart_nextSlotFree (h : s.store.formatMark = true) (hl : s.store.lastRecordGood = true) :
    (s.restart minutes seconds stopped failing).store.nextSlotFree := by
  rw [State.restart_eq_pump minutes seconds stopped failing h, State.pump_store, State.started,
    State.alarmed_store, State.bridgesComeUp_store]
  exact State.ownersUp_nextSlotFree _ failing hl

end

end

/-! ## The reset state -/

theorem State.reset_window? (n : Nat) :
    State.reset.window? n = if n = 1 then some (Window.fresh 1 MillTime.zeros) else none := by
  by_cases h : n = 1
  · subst h; rfl
  · rw [if_neg h]
    exact if_neg (Ne.symm h)

theorem State.reset_bridge (b : BridgeNo) : State.reset.bridge b = Bridge.factory 30 := by cases b <;> rfl

theorem State.reset_canonical : State.reset.canonical :=
  ⟨Table.wf_nil, Table.wf_nil, List.pairwise_singleton _ _, Table.wf_nil, Table.wf_nil⟩

theorem State.reset_oneOpenWindow : State.reset.oneOpenWindow := by
  refine ⟨⟨Window.fresh 1 MillTime.zeros, rfl, rfl⟩, fun n w hw => ?_⟩
  rw [State.reset_window?] at hw
  split at hw
  · next h => exact ⟨h.le, fun _ => h⟩
  · cases hw

theorem State.reset_partsSound : State.reset.partsSound := by
  intro n d hd
  cases hd

theorem State.reset_buffersSound : State.reset.buffersSound := by
  refine ⟨?_, ?_, ?_⟩ <;> decide

/-- After reset no turn is held, and the notice on the transmitter counts for none. -/
theorem State.reset_turnSound : State.reset.link.turnSound := by
  refine ⟨fun _ => ⟨rfl, rfl⟩, fun t ht => ?_, fun f m hf hm => ?_⟩
  · cases ht
  · cases hf
    cases hm

theorem State.reset_bridgesSound : State.reset.bridgesSound := by
  intro b
  rw [State.reset_bridge]
  exact ⟨fun _ => rfl, fun _ => rfl⟩

theorem State.reset_lampsSound : State.reset.lampsSound := by
  intro b
  rw [State.reset_bridge]
  cases b <;> exact ⟨rfl, rfl⟩

/-! ## BLANK START -/

/-- Input lines of four bridges with the levels that their wires stand at. -/
def Quad.wires (f q : Quad Input) : Quad Input :=
  ⟨{ f.q1 with raw := q.q1.raw }, { f.q2 with raw := q.q2.raw }, { f.q3 with raw := q.q3.raw },
    { f.q4 with raw := q.q4.raw }⟩

/-- The reset state with the wires and the queue of a state, a link as given, and AL by that link's flags. -/
def State.blankWith (s : State) (l : Link) : State :=
  let f := State.reset.lines
  { State.reset with
      link := l, pending := s.pending
      lines := { f with
        e := f.e.wires s.lines.e, x := f.x.wires s.lines.x
        cp := { f.cp with raw := s.lines.cp.raw }, jp := { f.jp with raw := s.lines.jp.raw }
        wp := { f.wp with raw := s.lines.wp.raw }, tr := { f.tr with raw := s.lines.tr.raw }
        ss := { f.ss with raw := s.lines.ss.raw }, al := l.flags.alarm } }

/-- What a raised flag makes of the link (R200). -/
def Link.raise (l : Link) (f : Flag) : Link := { l with flags := l.flags.set f (l.flags.get f).raised }

/-- What the entry of an unconfigured bridge to LOCKED makes of a link whose notice queue has room (R109, R117). -/
def Link.lockNotice (l : Link) (b : BridgeNo) : Link :=
  Link.raise { l with
    noticeNumber := l.noticeNumber + 1
    notices := l.notices ++ [⟨l.noticeNumber + 1, .bridgeLocked b .unconfigured none⟩] } .bridgeLocked

theorem State.blankWith_raise (s : State) (l : Link) (f : Flag) :
    (s.blankWith l).raise f = s.blankWith (l.raise f) := rfl

/-- A bridge that stands as BLANK START leaves it enters LOCKED: its notice and its flag are all that comes of it. -/
theorem State.blankWith_enterLocked (s : State) {l : Link} (h : l.notices.length < Config.noticeCapacity)
    (b : BridgeNo) : (s.blankWith l).enterLocked b .unconfigured none = s.blankWith (l.lockNotice b) := by
  have hmod : (s.blankWith l).modBridge b (fun x => { x with
      state := .locked, lockCause := some .unconfigured, pendingCause := none, entry := none, zeroRequest := false
      bindTimer := none }) = s.blankWith l := by
    cases b <;> rfl
  have hnotify (body : NoticeBody) : (s.blankWith l).notify body = { s.blankWith l with link := { l with
      noticeNumber := l.noticeNumber + 1, notices := l.notices ++ [⟨l.noticeNumber + 1, body⟩] } } := if_pos h
  unfold State.enterLocked
  dsimp only
  rw [hmod, hnotify]
  rfl

/-- The link that BLANK START leaves before it sends (R117, R202). -/
def Link.blank : Link :=
  ((bridgeList.foldl Link.lockNotice ((Link.factory 4 16).raise .blankStart)).raise .clockUnset)

theorem State.blank_eq_settleLink (s : State) : s.blank = (s.blankWith Link.blank).settleLink := by
  have hstart : s.blank = State.settleLink (State.raise (bridgeList.foldl (·.enterLocked · .unconfigured none)
      (s.blankWith ((Link.factory 4 16).raise .blankStart))) .clockUnset) := rfl
  rw [hstart]
  simp only [bridgeList, List.foldl]
  rw [State.blankWith_enterLocked _ (by decide), State.blankWith_enterLocked _ (by decide),
    State.blankWith_enterLocked _ (by decide), State.blankWith_enterLocked _ (by decide), State.blankWith_raise]
  rfl

/-- BLANK START asks nothing of the state but its wires' levels and its queue (R2, R185; logs 4, 35); the idle
transmitter has taken the first of its four notices. -/
theorem State.blank_eq (s : State) : s.blank = s.blankWith State.reset.link := by
  rw [State.blank_eq_settleLink, State.settleLink_of_empty _ rfl]
  rfl

/-! ## The queue at a reset, and at every command -/

theorem State.blank_pending (s : State) : s.blank.pending = s.pending := by
  rw [State.blank_eq]
  rfl

theorem State.restart_pending (s : State) (minutes seconds : Nat) (stopped : Bool) (failing : Nat) :
    (s.restart minutes seconds stopped failing).pending = s.pending := by
  cases h : s.store.formatMark with
  | false =>
    unfold State.restart
    rw [if_pos h, State.blank_pending]
  | true =>
    have hst := State.restart_standing minutes seconds stopped failing h
    obtain ⟨-, -, -, -, -, -, hq, -⟩ := State.standing_fields hst
    exact hq

/-- Every command has a next state. -/
theorem exec_next (c : Instr) (s : State) : ∃ t, exec c s = .next t := by
  cases c <;> exact ⟨_, rfl⟩

/-- No command writes the queue: a request by its owner's decision, an event by its own operation. -/
theorem exec_pending {c : Instr} {s t : State} (h : exec c s = .next t) : t.pending = s.pending := by
  cases c with
  | restart m sec stopped failing =>
    obtain rfl := Host.Outcome.next.inj h
    exact State.restart_pending s m sec stopped failing
  | blankStart =>
    obtain rfl := Host.Outcome.next.inj h
    exact s.blank_pending
  | frameReceived bytes =>
    obtain rfl := Host.Outcome.next.inj h
    rw [State.settleLink_pending]
    exact foldl_keeps State.pending State.feedByte_pending bytes s
  | _ =>
    obtain rfl := Host.Outcome.next.inj h
    simp

theorem State.always_safe (s : State) : s.safe := by
  unfold State.safe
  cases h : s.pending with
  | nil => exact ⟨_, step_of_empty h⟩
  | cons c rest =>
    rw [step_of_cons h]
    exact exec_next c _

end Sys2Proof.Machine

/-! The statements about the queue, the idle step and the two resets. -/
namespace Sys2Proof.Machine

open Sys2Proof

/-- Settles O1: `step` on a queue that is not empty. -/
theorem stepRunsTheFrontCommand : Obligations.StepRunsTheFrontCommand := fun _ _ _ => step_of_cons

/-- Settles O2: the idle step is `State.tick`, taken field by field. -/
theorem idleStepLetsAMillisecondPass : Obligations.IdleStepLetsAMillisecondPass := by
  intro s hq
  refine ⟨s.tick, step_of_empty hq, ⟨rfl, rfl, rfl, rfl, rfl, rfl, rfl, rfl, hq⟩, by simp, by simp, ?_, ?_, ?_, ?_,
    ?_, rfl, ScLine.tick_eq _, rfl, rfl, rfl, rfl, rfl, rfl⟩
  · intro h
    simp [Clock.tick_of_lt h]
  · intro h
    simp [Clock.tick_of_eq h]
  · intro b
    exact (State.tick_bridge s b).trans (Bridge.tick_eq _)
  · intro b
    exact State.tick_channel s b
  · intro line
    rw [State.tick_lines, FieldLines.tick_input, Input.tick_eq]

/-- Settles O3: every command has a next state, and none writes the queue. -/
theorem everyStepEndsInAState : Obligations.EveryStepEndsInAState := by
  intro s
  refine ⟨s.always_safe, fun c rest t hq ht => ?_⟩
  rw [step_of_cons hq] at ht
  exact exec_pending ht

/-- Settles O59: the invariants one by one; BLANK_START is `State.blank_eq`. -/
theorem blankStartGivesTheSoundResetState : Obligations.BlankStartGivesTheSoundResetState := by
  refine ⟨⟨State.reset_canonical, State.reset_oneOpenWindow, State.reset_partsSound, rfl, State.reset_buffersSound,
    State.reset_turnSound, State.reset_bridgesSound, State.reset_lampsSound⟩, ?_⟩
  intro s
  exact congrArg Host.Outcome.next s.blank_eq

/-- Settles O60, part by part from `State.restart_standing`, `State.restart_bridge`, `State.restart_window?` and
`State.restart_nextSlotFree`. -/
theorem restartKeepsWhatIsNonvolatile : Obligations.RestartKeepsWhatIsNonvolatile := by
  intro s m sec failing stopped hmark
  have hst := State.restart_standing m sec stopped failing hmark
  obtain ⟨hchannels, hdt, hvehicles, hfeed, hgrowers, hshift, hpending, hcounter, hpacing⟩ :=
    State.standing_fields hst
  obtain ⟨hformat, hsequence, hexport, hslot⟩ := State.store_of_standing hst
  obtain ⟨hmin, hmax, hreceiver, hinput, hreplies, hslot1, hslot2, hturn, hflag⟩ := State.link_of_standing hst
  have hlines := State.lines_of_standing hst
  obtain ⟨hcommand, hsc, hcp, hjp, hwp⟩ := FieldLines.outputs_of_standing hlines
  refine ⟨s.restart m sec stopped failing, rfl, ⟨hdt, hvehicles, hfeed, hshift, hpending⟩, ?_,
    ⟨hcounter, hpacing, ?_⟩, ?_, ?_, ⟨hexport, hsequence, hslot, hformat.trans hmark, ?_⟩,
    ⟨hmin, hmax, hreceiver, hinput, hreplies, hslot1, hslot2, hturn, hflag⟩,
    ⟨hcommand, hsc, hcp, hjp, hwp, ?_, ?_⟩⟩
  · intro code
    rw [State.grower?, hgrowers]
    exact recountGrowers_find s.dt.records s.growers code
  · intro n w
    exact State.restart_window? m sec stopped failing hmark
  · intro b
    rw [State.channel, hchannels]
    exact State.comeUp_channel s m sec stopped b
  · intro b
    obtain ⟨deadline, hb⟩ := State.restart_bridge m sec stopped failing hmark b
    rw [hb]
    exact Bridge.takeState_comeUp _ _ _
  · exact State.restart_nextSlotFree m sec stopped failing hmark
  · intro b
    exact ⟨(FieldLines.safe_of_standing hlines b).1.trans (s.lines.comeUp_safe b).1,
      (FieldLines.safe_of_standing hlines b).2.trans (s.lines.comeUp_safe b).2⟩
  · intro line
    exact (FieldLines.input_of_standing hlines line).trans (s.lines.comeUp_input line)

end Sys2Proof.Machine

/-! SUPPORT. What every operation keeps of the keyed tables: their canonical form, and the soundness of the deliveries'
parts. One lemma for each operation, in the order of the definitions. -/
namespace Sys2Proof.Machine

open Sys2Proof

/-- The five keyed tables (R3, R25, R46, R84, R168). -/
def State.tables (s : State) : Table Delivery × Table Vehicle × Table Window × Table Grower × Table StoredRecord :=
  (s.dt.records, s.vehicles, s.windows.records, s.growers, s.store.slots)

/-- What is kept of the tables on the way from one state to another: the canonical form, and sound parts. -/
structure TablesKept (r s : State) : Prop where
  canonical : r.canonical → s.canonical
  parts : r.partsSound → s.partsSound

/-! ## The record slots under the store's operations -/

@[simp] theorem Store.moveUp_slots (x : Store) : x.moveUp.slots = x.slots := by
  unfold Store.moveUp; repeat' split
  all_goals rfl

@[simp] theorem Store.place_slots (x : Store) (w : WriteRequest) : (x.place w).slots = x.slots := by
  unfold Store.place; repeat' split
  all_goals rfl

theorem Store.choose_slots {x y : Store} {w : WriteRequest} (h : x.choose = some (w, y)) : y.slots = x.slots := by
  unfold Store.choose at h
  repeat' split at h
  all_goals cases h
  all_goals first | rfl | exact Store.moveUp_slots _

@[simp] theorem Store.withdraw_slots (x : Store) (b : BridgeNo) : (x.withdraw b).slots = x.slots := by
  simp [Store.withdraw]

/-! ## The credit of a debit (R36) -/

/-- A delivery's parts add up to its crushed mass after a debit, if they did before it. -/
theorem creditParts_sum {parts : List Part} {crushed : Nat} (w kg : Nat) (h : (parts.map (·.kg)).sum = crushed) :
    ((creditParts parts w kg).2.map (·.kg)).sum = crushed + kg := by
  subst h
  rcases List.eq_nil_or_concat' parts with rfl | ⟨older, p, rfl⟩
  · simp [creditParts]
  · simp only [creditParts, List.getLast?_concat, List.dropLast_concat]
    repeat' split
    all_goals simp [Nat.add_assoc]

theorem creditParts_length {parts : List Part} (w kg : Nat) (h : parts.length ≤ Config.partsCapacity) :
    (creditParts parts w kg).2.length ≤ Config.partsCapacity := by
  rcases List.eq_nil_or_concat' parts with rfl | ⟨older, p, rfl⟩
  · exact Nat.succ_le_succ (Nat.zero_le _)
  · simp only [creditParts, List.getLast?_concat, List.dropLast_concat]
    split
    · simpa using h
    · split
      · next hlt =>
        simp at hlt ⊢
        omega
      · simpa using h

namespace TablesKept

theorem refl (s : State) : TablesKept s s := ⟨id, id⟩

section

variable {r s t : State} (h : TablesKept r s)

include h

/-! ## Changes of the tables -/

/-- What leaves the five tables as they are keeps them. -/
theorem congr (ht : t.tables = s.tables) : TablesKept r t := by
  simp only [State.tables, Prod.mk.injEq] at ht
  obtain ⟨hd, hv, hw, hg, hs⟩ := ht
  have hc : t.canonical ↔ s.canonical := by simp only [State.canonical, hd, hv, hw, hg, hs]
  have hp : t.partsSound ↔ s.partsSound := by simp only [State.partsSound, State.delivery?, hd]
  exact ⟨fun hr => hc.mpr (h.canonical hr), fun hr => hp.mpr (h.parts hr)⟩

theorem ite {c : Prop} [Decidable c] (h' : TablesKept r t) : TablesKept r (if c then s else t) := by
  split
  · exact h
  · exact h'

theorem foldl {α : Type} {f : State → α → State} (hf : ∀ {u} a, TablesKept r u → TablesKept r (f u a)) (l : List α) :
    TablesKept r (l.foldl f s) :=
  List.foldlRecOn (motive := TablesKept r) l f h fun _ hu a _ => hf a hu

/-- A change of the Delivery Table and of nothing else among the tables. -/
theorem deliveries {f : Table Delivery → Table Delivery} (ht : t.tables = (f s.dt.records, s.tables.2))
    (hf : Table.wf s.dt.records → Table.wf (f s.dt.records))
    (hp : s.partsSound → ∀ n d, Table.find (f s.dt.records) n = some d → d.partsSound) : TablesKept r t := by
  simp only [State.tables, Prod.mk.injEq] at ht
  obtain ⟨hd, hv, hw, hg, hs⟩ := ht
  refine ⟨fun hr => ?_, fun hr => ?_⟩
  · obtain ⟨cd, cv, cw, cg, cs⟩ := h.canonical hr
    exact ⟨hd ▸ hf cd, hv ▸ cv, hw ▸ cw, hg ▸ cg, hs ▸ cs⟩
  · intro n d hn
    rw [State.delivery?, hd] at hn
    exact hp (h.parts hr) n d hn

/-- A change of the other four tables that keeps their canonical forms. -/
theorem others (hd : t.dt.records = s.dt.records)
    (hc : s.canonical → Table.wf t.vehicles ∧ t.windows.records.wf ∧ Table.wf t.growers ∧ t.store.slots.wf) :
    TablesKept r t := by
  refine ⟨fun hr => ?_, fun hr => ?_⟩
  · have hs := h.canonical hr
    exact ⟨hd ▸ hs.1, hc hs⟩
  · have hs := h.parts hr
    simpa only [State.partsSound, State.delivery?, hd] using hs

/-- A delivery's change keeps its parts sound, if it has sound parts. -/
theorem modDelivery {n : Nat} {f : Delivery → Delivery}
    (hf : ∀ d, s.delivery? n = some d → d.partsSound → (f d).partsSound) :
    TablesKept r (s.modDelivery n f) := by
  refine h.deliveries (f := fun x => x.modify n f) rfl (fun hd => Table.wf_modify hd n f) fun hp m d hm => ?_
  rw [Table.find_modify] at hm
  split at hm
  · next hmn =>
    subst hmn
    obtain ⟨d', hd', rfl⟩ := Option.map_eq_some_iff.mp hm
    exact hf d' hd' (hp m d' hd')
  · exact hp m d hm

theorem modWindow (n : Nat) (f : Window → Window) : TablesKept r (s.modWindow n f) :=
  h.others (by rfl) fun ⟨_, hv, hw, hg, hs⟩ => ⟨hv, Table.wf_modify hw n f, hg, hs⟩

theorem modGrower (n : Nat) (f : Grower → Grower) : TablesKept r (s.modGrower n f) :=
  h.others (by rfl) fun ⟨_, hv, hw, hg, hs⟩ => ⟨hv, hw, Table.wf_modify hg n f, hs⟩

theorem modVehicle (n : Nat) (f : Vehicle → Vehicle) : TablesKept r (s.modVehicle n f) :=
  h.others (by rfl) fun ⟨_, hv, hw, hg, hs⟩ => ⟨Table.wf_modify hv n f, hw, hg, hs⟩

theorem slots (ht : t.tables = { s with store := t.store }.tables) (hs : s.store.slots.wf → t.store.slots.wf) :
    TablesKept r t := by
  simp only [State.tables, Prod.mk.injEq] at ht
  obtain ⟨hd, hv, hw, hg, -⟩ := ht
  exact h.others hd fun ⟨_, cv, cw, cg, cs⟩ => ⟨hv ▸ cv, hw ▸ cw, hg ▸ cg, hs cs⟩

/-! ## What touches no table -/

theorem tally (f : Accumulators → Accumulators) : TablesKept r (s.tally f) := h.congr (by rfl)

theorem modChannel (b : BridgeNo) (f : Channel → Channel) : TablesKept r (s.modChannel b f) := h.congr (by rfl)

theorem modBridge (b : BridgeNo) (f : Bridge → Bridge) : TablesKept r (s.modBridge b f) := h.congr (by rfl)

theorem setInput (line : InputLine) (i : Input) : TablesKept r (s.setInput line i) := h.congr (by rfl)

theorem raise (f : Flag) : TablesKept r (s.raise f) := h.congr (by rfl)

theorem notify (body : NoticeBody) : TablesKept r (s.notify body) := h.congr (by simp [State.tables])

theorem placeReply (x : Reply) : TablesKept r (s.placeReply x) := h.congr (by rfl)

theorem pump : TablesKept r s.pump := h.congr (by simp [State.tables])

/-! ## The store -/

theorem judgeStore : TablesKept r s.judgeStore := by
  rcases State.judgeStore_cases (s := s) with hj | ⟨next, -, -, -, -, hj⟩
  · rw [hj]; exact h
  · rw [hj]
    have hn : TablesKept r { s with store := { s.store with state := next } } := h.congr (by rfl)
    exact ((hn.notify _).raise _).ite (hn.notify _)

theorem reserve (k : Nat) : TablesKept r (s.reserve k) := judgeStore (h.congr (by rfl))

theorem giveBack (k : Nat) : TablesKept r (s.giveBack k) := judgeStore (h.congr (by rfl))

theorem failStore : TablesKept r s.failStore := by
  unfold State.failStore
  exact raise (notify (h.congr (by rfl)) _) _

theorem beginWrite (x : WriteRequest) : TablesKept r (s.beginWrite x) :=
  h.slots (by rfl) fun hs => Table.wf_drop hs _

theorem startNext : TablesKept r s.startNext := by
  unfold State.startNext
  split
  · exact h
  · split
    · exact h
    · split
      · exact h
      · next x st hx =>
        have hst : TablesKept r { s with store := st } := h.slots (by rfl) fun hs => Store.choose_slots hx ▸ hs
        exact hst.beginWrite x

theorem requestWrite (q : Requester) (body : RecordBody) : TablesKept r (s.requestWrite q body) :=
  startNext (h.slots (by rfl) fun hs => (Store.place_slots s.store ⟨q, body⟩).symm ▸ hs)

/-! ## Windows and the sampler -/

theorem requestWindowRecord (n : Nat) : TablesKept r (s.requestWindowRecord n) := by
  unfold State.requestWindowRecord
  split
  · exact h.requestWrite _ _
  · exact h

theorem markVoid (n : Nat) (f : Window → Window) : TablesKept r (s.markVoid n f) := h.modWindow _ _

theorem voidWindow (n : Nat) (f : Window → Window) : TablesKept r (s.voidWindow n f) :=
  (h.markVoid n f).requestWindowRecord n

theorem openWindow (shift : Nat) : TablesKept r (s.openWindow shift) := by
  refine reserve (h.others (by rfl) ?_) 1
  exact fun ⟨_, hv, hw, hg, hs⟩ => ⟨hv, Table.wf_put hw _ _, hg, hs⟩

theorem closeWindow (shift : Nat) : TablesKept r (s.closeWindow shift) := by
  unfold State.closeWindow
  extract_lets n time
  split
  · exact h
  · extract_lets s₁ s₂ s₃
    have h₁ : TablesKept r s₁ := (h.voidWindow _ _).ite (h.modWindow _ _)
    have h₃ : TablesKept r s₃ := (h₁.openWindow shift).tally _
    split
    · exact h₃.notify _
    · exact h₃

theorem extendWindow : TablesKept r s.extendWindow := by
  unfold State.extendWindow
  split
  · exact h
  · exact h.ite ((h.modWindow _ _).raise _)

theorem triggerClose (shift : Nat) : TablesKept r (s.triggerClose shift) :=
  (h.closeWindow shift).ite h.extendWindow

theorem closeRetest : TablesKept r s.closeRetest := (h.closeWindow _).ite h

theorem targetTest : TablesKept r s.targetTest := by
  refine h.closeRetest.ite ?_
  split
  · exact (h.triggerClose _).ite h
  · exact h

theorem durationTest : TablesKept r s.durationTest := by
  refine h.closeRetest.ite ?_
  split
  · exact (h.triggerClose _).ite h
  · exact h

theorem samplerTest : TablesKept r s.samplerTest := by
  unfold State.samplerTest
  split
  · exact congr (h.modWindow s.openNumber fun w => { w with commanded := add32 w.commanded 1 }) (by rfl)
  · exact h

theorem strokeSeen (n : Nat) : TablesKept r (s.strokeSeen n) := h.modWindow _ _

theorem strokeMissed (n : Nat) : TablesKept r (s.strokeMissed n) := by
  have hr : TablesKept r (s.raise .samplerMiss) := h.raise _
  unfold State.strokeMissed
  extract_lets s₁
  split
  · exact hr
  · split
    · exact hr.modWindow _ _
    · exact (hr.voidWindow _ _).ite (hr.modWindow _ _)
    · exact hr
    · exact hr

theorem endCommand : TablesKept r s.endCommand := h.congr (by rfl)

theorem strokeEdge : TablesKept r s.strokeEdge := by
  unfold State.strokeEdge
  split
  · exact h
  · exact (h.endCommand.strokeSeen _).samplerTest

theorem confirmExpired : TablesKept r s.confirmExpired := by
  unfold State.confirmExpired
  split
  · exact h
  · exact (h.endCommand.strokeMissed _).samplerTest

theorem juicePulse (kg : Nat) : TablesKept r (s.juicePulse kg) := (h.modWindow _ _).tally _

theorem waterPulse (kg : Nat) : TablesKept r (s.waterPulse kg) := (h.modWindow _ _).tally _

theorem expireWindow (n : Nat) : TablesKept r (s.expireWindow n) := by
  unfold State.expireWindow
  split
  · exact h
  · exact ((h.raise _).voidWindow _ _).ite h

theorem expireWindows : TablesKept r s.expireWindows := h.foldl (fun n hu => hu.expireWindow n) _

theorem releaseTest (n : Nat) : TablesKept r (s.releaseTest n) := by
  unfold State.releaseTest
  split
  · exact h
  · split
    · exact closeRetest (h.others (by rfl) fun ⟨_, hv, hw, hg, hs⟩ => ⟨hv, Table.wf_drop hw _, hg, hs⟩)
    · exact h

/-! ## Settlement and the feed -/

theorem handOver (n : Nat) : TablesKept r (s.handOver n) := by
  unfold State.handOver
  split
  · exact h
  · split
    · exact h
    · exact h.requestWrite _ _

/-- A delivery that is OPEN_GROSS no more keeps sound parts whatever its state becomes. -/
theorem settleTest (n : Nat) : TablesKept r (s.settleTest n) := by
  unfold State.settleTest
  split
  · exact h
  · refine ite (handOver (h.modDelivery ?_) n) h
    exact fun d _ ⟨hsum, hlen, _⟩ => ⟨hsum, hlen, fun hc => nomatch hc⟩

theorem settleTestsOf (w : Nat) : TablesKept r (s.settleTestsOf w) := h.foldl (fun n hu => hu.settleTest n) _

theorem dropDelivery (n : Nat) : TablesKept r { s with dt := { s.dt with records := s.dt.records.drop n } } := by
  refine h.deliveries (f := fun x => x.drop n) rfl (fun hd => Table.wf_drop hd n) fun hp m d hm => ?_
  rw [Table.find_drop] at hm
  split at hm
  · cases hm
  · exact hp m d hm

theorem settleComplete (sequence : Nat) (b : SettleBody) : TablesKept r (s.settleComplete sequence b) := by
  refine notify (foldl (dropDelivery (foldl (tally (h.modGrower _ _) _) ?_ _) _) ?_ _) _
  · exact fun n hu => hu.modWindow n _
  · exact fun n hu => hu.releaseTest n

/-! ### Debits and exits from the Feed Queue (R35, R36, R39) -/

/-- A debit that a delivery's remainder exceeds leaves its parts sound: it has queue mass, so it is not OPEN_GROSS. -/
theorem debit {n : Nat} {d : Delivery} {kg : Nat} (hd : s.delivery? n = some d) (hkg : kg < d.queueMass - d.crushed)
    (w : Nat) : TablesKept r (s.debit n d w kg) := by
  refine modWindow (h.modDelivery fun d' hd' hp => ?_) w _
  obtain rfl := Option.some.inj (hd.symm.trans hd')
  refine ⟨creditParts_sum w kg hp.1, creditParts_length w kg hp.2.1, fun ho => ?_⟩
  have hq : d.queueMass = 0 := (hp.2.2 ho).2
  omega

/-- A delivery that a debit finishes is CRUSHED, whatever state it was in. -/
theorem debit_leaveFeed {n : Nat} {d : Delivery} (hd : s.delivery? n = some d) (w kg : Nat) :
    TablesKept r ((s.debit n d w kg).leaveFeed n) := by
  have hw : TablesKept r (s.modWindow w fun v => v.credited kg (creditParts d.parts w kg).1) := h.modWindow _ _
  refine hw.deliveries (f := fun x => (x.modify n fun d' => { d' with
      crushed := d'.crushed + kg, parts := (creditParts d.parts w kg).2
      folded := d'.folded || (creditParts d.parts w kg).1 == .folded }).modify n fun d' => { d' with state := .crushed }) rfl
    (fun hx => Table.wf_modify (Table.wf_modify hx n _) n _) fun hp m d' hm => ?_
  rw [Table.find_modify, Table.find_modify] at hm
  split at hm
  · next hmn =>
    subst hmn
    have hw' : Table.find (s.modWindow w fun v => v.credited kg (creditParts d.parts w kg).1).dt.records m = some d := hd
    rw [hw'] at hm
    obtain rfl := Option.some.inj hm
    obtain ⟨hsum, hlen, -⟩ := hp m d hd
    exact ⟨creditParts_sum w kg hsum, creditParts_length w kg hlen, fun hc => nomatch hc⟩
  · exact hp m d' hm

theorem leaveFeed (n : Nat) : TablesKept r (s.leaveFeed n) := by
  refine modDelivery (h.congr (by rfl)) ?_
  exact fun d _ ⟨hsum, hlen, _⟩ => ⟨hsum, hlen, fun hc => nomatch hc⟩

omit h in
theorem debits (w : Nat) (ns : List Nat) : ∀ (kg : Nat) {s : State}, TablesKept r s →
    TablesKept r (State.debits w ns kg s).2 := by
  induction ns with
  | nil => exact fun _ _ h => h
  | cons n rest ih =>
    intro kg s h
    unfold State.debits
    split
    · exact h
    · split
      · exact ih _ h
      · next d hd =>
        extract_lets remainder
        split
        · next hlt => exact h.debit hd hlt w
        · exact ih _ ((h.debit_leaveFeed hd w remainder).settleTest n)

theorem orphan (w kg : Nat) : TablesKept r (s.orphan w kg) := h.ite (((h.modWindow _ _).tally _).raise _)

theorem canePulse (kg : Nat) : TablesKept r (s.canePulse kg) := by
  refine targetTest (samplerTest (congr (orphan (debits _ _ _ ?_) _ _) (by rfl)))
  exact (h.modWindow _ _).tally _

theorem net (n : Nat) (x : Netting) : TablesKept r (s.net n x) := by
  unfold State.net
  extract_lets s₁
  have h₁ : TablesKept r s₁ := h.modDelivery (by exact fun _ _ hp => hp)
  split
  · exact h₁
  · next d hd =>
    split
    · next hq =>
      have h₂ : TablesKept r (s₁.modDelivery n fun d => { d with queueMass := x.net }) := by
        refine h₁.modDelivery fun d' hd' ⟨hsum, hlen, _⟩ => ⟨hsum, hlen, fun ho => ?_⟩
        obtain rfl := Option.some.inj (hd.symm.trans hd')
        exact nomatch hq.symm.trans ho
      exact h₂.ite ((h₂.modDelivery (by exact fun _ _ hp => hp)).leaveFeed n)
    · exact h₁.ite (h₁.modDelivery (by exact fun _ _ hp => hp))
    · exact h₁
    · exact h₁
    · exact h₁

/-! ## Deliveries -/

theorem grossCapture (b : BridgeNo) (vehicle cls grower inspection : Nat) (wish : Bool) (kg : Nat) :
    TablesKept r (s.grossCapture b vehicle cls grower inspection wish kg).1 := by
  unfold State.grossCapture
  exact ite (modVehicle (h.congr (by rfl)) _ _) (h.congr (by rfl))

/-- A new delivery has no parts and no crushed mass. -/
theorem grossComplete (sequence : Nat) (x : GrossTicket) : TablesKept r (s.grossComplete sequence x) := by
  refine notify (h.deliveries (f := fun y => y.put x.delivery (x.record sequence)) rfl
    (fun hd => Table.wf_put hd _ _) fun hp m d hm => ?_) _
  rw [Table.find_put] at hm
  split at hm
  · obtain rfl := Option.some.inj hm
    exact ⟨rfl, Nat.zero_le _, fun _ => ⟨rfl, rfl⟩⟩
  · exact hp m d hm

theorem tareComplete (sequence : Nat) (x : TareTicket) : TablesKept r (s.tareComplete sequence x) := by
  unfold State.tareComplete
  split
  · exact (h.modDelivery (by exact fun _ _ hp => hp)).notify _
  · exact (((h.modVehicle _ _).net _ _).settleTest _).notify _

theorem storedComplete (sequence : Nat) (x : TareTicket) : TablesKept r (s.storedComplete sequence x) := by
  unfold State.storedComplete
  split
  · exact h
  · exact (((h.modDelivery (by exact fun _ _ hp => hp)).net _ _).settleTest _).notify _

theorem voidComplete (sequence : Nat) (v : VoidBody) : TablesKept r (s.voidComplete sequence v) :=
  ((h.dropDelivery _).modGrower _ _).notify _

/-! ## Bridges -/

theorem endPeriod (b : BridgeNo) : TablesKept r (s.endPeriod b) := h.modChannel b _

theorem ceased (b : BridgeNo) (cause : LockCause) : TablesKept r (s.ceased b cause) := by
  unfold State.ceased
  split
  · split
    · exact h.modBridge _ _
    · exact h
  · exact h

theorem setRange (b : BridgeNo) (k : RangeKind) (v : Bool) : TablesKept r (s.setRange b k v) := by
  have hc : TablesKept r (s.modChannel b fun c => c.setRangeFlag k v) := h.modChannel _ _
  refine h.ite (ite (hc.ite (hc.modBridge _ _)) (ite ?_ ?_))
  · exact (hc.modBridge _ _).ceased _ _
  · exact hc.modBridge _ _

theorem restartTimers (b : BridgeNo) : TablesKept r (s.restartTimers b) := h.modBridge _ _

theorem enterLocked (b : BridgeNo) (cause : LockCause) (x : Option Binding) : TablesKept r (s.enterLocked b cause x) :=
  ((h.modBridge _ _).notify _).raise _

theorem discardBinding (b : BridgeNo) : TablesKept r (s.discardBinding b) := by
  unfold State.discardBinding
  split
  · exact h
  · extract_lets s₁
    have h₁ : TablesKept r s₁ := h.modBridge _ _
    split
    · exact modGrower (congr (h₁.giveBack 2) (by rfl)) _ _
    · exact h₁.giveBack 1

theorem arise (b : BridgeNo) (cause : LockCause) : TablesKept r (s.arise b cause) := by
  unfold State.arise
  split
  · exact h.enterLocked _ _ _
  · exact h.enterLocked _ _ _
  · exact h.enterLocked _ _ _
  · exact (h.discardBinding _).enterLocked _ _ _
  · exact h.modBridge _ _
  · exact h
  · exact h

theorem setZero (b : BridgeNo) (zero : Int) : TablesKept r (s.setZero b zero) := (h.modBridge _ _).endPeriod _

theorem emptyMean (b : BridgeNo) : TablesKept r (s.emptyMean b) :=
  (((h.modChannel _ _).endPeriod _).setRange _ _ _).setRange _ _ _

theorem judgePresence (b : BridgeNo) : TablesKept r (s.judgePresence b) :=
  ite ((h.modBridge _ _).ite ((h.modBridge _ _).endPeriod _)) ((h.modBridge _ _).ite h)

theorem applyConfig (b : BridgeNo) (wasHeld : Bool) : TablesKept r (s.applyConfig b wasHeld) := by
  unfold State.applyConfig
  split
  · exact h
  · extract_lets old new nominal s₁ s₂ s₃ s₄ body s₅ s₆ s₇ s₈ s₉
    have h₁ : TablesKept r s₁ := h.modChannel _ _
    have h₂ : TablesKept r s₂ := (h₁.setZero _ _).ite h₁
    have h₃ : TablesKept r s₃ := (h₂.emptyMean _).ite h₂
    have h₅ : TablesKept r s₅ := (h₃.endPeriod _).modChannel _ _
    have h₇ : TablesKept r s₇ := (h₅.requestWrite _ _).notify _
    have h₈ : TablesKept r s₈ := (h₇.ceased _ _).ite h₇
    have h₉ : TablesKept r s₉ := (h₈.enterLocked _ _ _).ite h₈
    exact h₉.judgePresence _

theorem goIdle (b : BridgeNo) : TablesKept r (s.goIdle b) := by
  unfold State.goIdle
  extract_lets s₁
  have h₁ : TablesKept r s₁ := h.modBridge _ _
  refine h₁.ite ?_
  split
  · exact (h₁.applyConfig _ _).ite h₁
  · exact h₁

theorem judgeAbsent (b : BridgeNo) : TablesKept r (s.judgeAbsent b) := by
  unfold State.judgeAbsent
  extract_lets s₁
  have h₁ : TablesKept r s₁ := (h.modBridge _ _).endPeriod _
  split
  · exact h₁.goIdle _
  · exact h₁.goIdle _
  all_goals exact h₁

theorem rearmZero (b : BridgeNo) : TablesKept r (s.rearmZero b) := h.modBridge _ _

theorem takeZero (b : BridgeNo) (zero : Int) : TablesKept r (s.takeZero b zero) :=
  ((h.setZero _ _).modBridge _ _).rearmZero _

theorem zeroMinute (b : BridgeNo) : TablesKept r (s.zeroMinute b) := (((h.modBridge _ _).ite h).rearmZero _).ite h

theorem zeroCheck (b : BridgeNo) (reading count : Int) : TablesKept r (s.zeroCheck b reading count) :=
  ((h.takeZero _ _).ite (h.enterLocked _ _ _)).ite h

theorem captureTest (b : BridgeNo) (reading : Int) : TablesKept r (s.captureTest b reading) := by
  refine ite ?_ h
  split
  · exact h
  · extract_lets held
    have hh : TablesKept r held := h.modBridge _ _
    split
    · exact (hh.grossCapture _ _ _ _ _ _ _).requestWrite _ _
    · split
      · exact hh.requestWrite _ _
      · exact h

theorem leaveCapture (b : BridgeNo) : TablesKept r (s.leaveCapture b) := by
  unfold State.leaveCapture
  split
  · exact h.enterLocked _ _ _
  · exact ite (h.modBridge _ _) ((h.modBridge _ _).goIdle _)

theorem bindExpired (b : BridgeNo) : TablesKept r (s.bindExpired b) := by
  unfold State.bindExpired
  split
  · exact ((h.discardBinding _).notify _).goIdle _
  · exact h

theorem persistenceExpired (b : BridgeNo) (k : RangeKind) : TablesKept r (s.persistenceExpired b k) := by
  unfold State.persistenceExpired
  split
  · exact (h.modBridge _ _).arise _ _
  · exact h
  · exact h

theorem clearHoldExpired (b : BridgeNo) : TablesKept r (s.clearHoldExpired b) := (h.judgeAbsent _).ite h

theorem bindBridge (b : BridgeNo) (x : Binding) : TablesKept r (s.bindBridge b x) := h.modBridge _ _

/-! ## Channels -/

theorem endSession (b : BridgeNo) : TablesKept r (s.endSession b) := by
  unfold State.endSession
  extract_lets s₁ s₂
  have h₂ : TablesKept r s₂ := ((h.modChannel _ _).giveBack _).restartTimers _
  split
  · exact h₂.enterLocked _ _ _
  · exact h₂.goIdle _
  · exact h₂.goIdle _

theorem stepReading (b : BridgeNo) (count : Int) : TablesKept r (s.stepReading b count) := by
  unfold State.stepReading
  split
  · exact h
  · split
    · exact h
    · split
      · exact (h.modChannel _ _).notify _
      · exact (h.modChannel _ _).notify _

theorem stepTimeout (b : BridgeNo) : TablesKept r (s.stepTimeout b) := by
  unfold State.stepTimeout
  split
  · exact h
  · split
    · exact h
    · exact (h.modChannel _ _).notify _

theorem sessionTimeout (b : BridgeNo) : TablesKept r (s.sessionTimeout b) := by
  unfold State.sessionTimeout
  split
  · exact h
  · exact ((h.endSession _).notify _).ite h

theorem sessionComplete (b : BridgeNo) (body : CalBody) : TablesKept r (s.sessionComplete b body) := by
  unfold State.sessionComplete
  extract_lets wireOff s₁ s₂ s₃
  have h₁ : TablesKept r s₁ := (h.modChannel _ _).endPeriod _
  have h₃ : TablesKept r s₃ := (((h₁.takeZero _ _).restartTimers _).goIdle _).notify _
  exact (h₃.arise _ _).ite h₃

theorem withdraw (b : BridgeNo) : TablesKept r { s with store := s.store.withdraw b } :=
  h.slots (by rfl) fun hs => (Store.withdraw_slots s.store b).symm ▸ hs

theorem wireOffBridge (b : BridgeNo) : TablesKept r (s.wireOffBridge b) := by
  refine ite (ite (h.modChannel _ _) ?_) (h.arise _ _)
  exact (((((h.withdraw b).modChannel _ _).giveBack _).notify _).restartTimers _).enterLocked _ _ _

theorem raiseWireOff (b : BridgeNo) : TablesKept r (s.raiseWireOff b) :=
  (((h.modChannel _ _).emptyMean _).wireOffBridge _).judgePresence _

theorem clearWireOff (b : BridgeNo) : TablesKept r (s.clearWireOff b) :=
  ((h.modChannel _ _).ceased _ _).judgePresence _

theorem stableEnding (b : BridgeNo) (reading count : Int) : TablesKept r (s.stableEnding b reading count) := by
  unfold State.stableEnding
  split
  · exact h.stepReading _ _
  · exact h.captureTest _ _
  · exact h.zeroCheck _ _ _
  all_goals exact h

theorem stability (b : BridgeNo) (reading count : Int) : TablesKept r (s.stability b reading count) := by
  unfold State.stability
  extract_lets c
  split
  · exact h.modChannel _ _
  · exact (h.modChannel _ _).ite (((h.modChannel _ _).stableEnding _ _ _).ite (h.modChannel _ _))

theorem takeReading (b : BridgeNo) (filtered : Int) : TablesKept r (s.takeReading b filtered) := by
  unfold State.takeReading
  extract_lets c reading s₁ s₂ s₃ before s₄
  have h₃ : TablesKept r s₃ := ((h.modChannel _ _).setRange _ _ _).setRange _ _ _
  have h₄ : TablesKept r s₄ := h₃.judgePresence _
  exact (h₄.stability _ _ _).ite h₄

theorem joinMean (b : BridgeNo) (count : Int) : TablesKept r (s.joinMean b count) := by
  unfold State.joinMean
  extract_lets c mean s₁ filtered s₂
  have h₁ : TablesKept r s₁ := h.modChannel _ _
  have h₂ : TablesKept r s₂ := h₁.modChannel _ _
  exact (h₂.ite (h₂.takeReading _ _)).ite h₁

theorem convert (b : BridgeNo) (count : Int) (agree : Bool) : TablesKept r (s.convert b count agree) := by
  unfold State.convert
  split
  · exact ((h.modChannel _ _).raiseWireOff _).ite (h.modChannel _ _)
  · exact (((h.modChannel _ _).clearWireOff _).ite (h.modChannel _ _)).ite ((h.modChannel _ _).joinMean _ _)

theorem periodStable (b : BridgeNo) : TablesKept r (s.periodStable b) := by
  unfold State.periodStable
  extract_lets c
  split
  · exact (h.modChannel _ _).stableEnding _ _ _
  · exact h

theorem wireOffRun (b : BridgeNo) : TablesKept r (s.wireOffRun b) := h.ite ((h.modChannel _ _).raiseWireOff _)

theorem wireClearRun (b : BridgeNo) : TablesKept r (s.wireClearRun b) := ((h.modChannel _ _).clearWireOff _).ite h

theorem enterCalibrating (b : BridgeNo) (entry : EntryState) : TablesKept r (s.enterCalibrating b entry) :=
  h.modBridge _ _

theorem beginStep (b : BridgeNo) (x : Session) : TablesKept r (s.beginStep b x) := (h.modChannel _ _).endPeriod _

/-! ## Lines -/

theorem deliverLevel (line : InputLine) : TablesKept r (s.deliverLevel line) := by
  unfold State.deliverLevel
  split
  · exact h.judgePresence _
  · exact h.judgePresence _
  · exact h.samplerTest.ite h
  all_goals exact h

theorem deliverEdge (line : InputLine) : TablesKept r (s.deliverEdge line) := by
  unfold State.deliverEdge
  split
  · exact h.canePulse _
  · exact h.juicePulse _
  · exact h.waterPulse _
  · exact h.strokeEdge
  all_goals exact h

theorem takeLevel (line : InputLine) : TablesKept r (s.takeLevel line) := by
  have hl {i : Input} : TablesKept r ((s.setInput line i).deliverLevel line) := (h.setInput _ _).deliverLevel _
  exact ite (hl.deliverEdge _) hl

theorem holdExpired (line : InputLine) : TablesKept r (s.holdExpired line) := (h.takeLevel _).ite h

theorem setInputSettings (line : InputLine) (es : List (Nat × Nat)) : TablesKept r (s.setInputSettings line es) := by
  unfold State.setInputSettings
  extract_lets i₁ i₂ s₁
  have h₁ : TablesKept r s₁ := h.setInput _ _
  split
  · exact h₁.congr (by rfl)
  · exact h₁

theorem lineSetInput (line : InputLine) (es : List (Nat × Nat)) : TablesKept r (s.lineSetInput line es) := by
  unfold State.lineSetInput
  extract_lets before s₁ s₂
  have h₁ : TablesKept r s₁ := h.setInputSettings _ _
  have h₂ : TablesKept r s₂ := (h₁.deliverLevel _).ite h₁
  split
  · exact (h₂.takeLevel _).ite h₂
  · exact h₂

theorem lineSetLamp (entry : Bool) (b : BridgeNo) (es : List (Nat × Nat)) :
    TablesKept r (s.lineSetLamp entry b es) := by
  unfold State.lineSetLamp
  split
  · exact h
  · exact ite (h.congr (by rfl)) (h.congr (by rfl))

theorem lineSet (x : LineTarget) (es : List (Nat × Nat)) : TablesKept r (s.lineSet x es) := by
  unfold State.lineSet
  split
  · exact h.lineSetInput _ _
  · exact h.lineSetLamp _ _ _
  · exact h.lineSetLamp _ _ _
  all_goals exact h

/-! ## Shifts and seasons -/

theorem beginShift (letter : Letter) (number : Nat) (body : ShiftBody) :
    TablesKept r (s.beginShift letter number body) := requestWrite (h.congr (by rfl)) _ _

theorem seasonWindows : TablesKept r s.seasonWindows := by
  refine openWindow (others (h.giveBack s.unwrittenWindows) (by rfl) ?_) 1
  exact fun ⟨_, hv, _, hg, hs⟩ => ⟨hv, Table.wf_nil, hg, hs⟩

theorem shiftComplete (sequence : Nat) (body : ShiftBody) : TablesKept r (s.shiftComplete sequence body) :=
  notify (h.congr (by rfl)) _

theorem seasonComplete : TablesKept r s.seasonComplete := h.congr (by rfl)

/-! ## Records -/

theorem windowComplete (sequence n : Nat) : TablesKept r (s.windowComplete sequence n) := by
  unfold State.windowComplete
  extract_lets s₁ s₂
  have h₁ : TablesKept r s₁ := h.modWindow _ _
  have h₂ : TablesKept r s₂ := by
    unfold s₂
    split
    · exact h₁.notify _
    · exact h₁
  exact (h₂.settleTestsOf n).releaseTest n

theorem ticketDone (b : BridgeNo) {complete : State → State}
    (hc : ∀ {u}, TablesKept r u → TablesKept r (complete u)) : TablesKept r (s.ticketDone b complete) :=
  (hc (h.modBridge _ _)).leaveCapture b

theorem requesterComplete (sequence : Nat) (x : WriteRequest) : TablesKept r (s.requesterComplete sequence x) := by
  unfold State.requesterComplete
  split
  · exact h.ticketDone _ fun hu => hu.grossComplete _ _
  · exact h.ticketDone _ fun hu => hu.tareComplete _ _
  · exact h.storedComplete _ _
  · exact h.voidComplete _ _
  · exact h.settleComplete _ _
  · exact h.windowComplete _ _
  · exact h.shiftComplete _ _
  · exact h.seasonComplete
  · exact h.modChannel _ _
  · exact h.sessionComplete _ _
  · exact h

theorem completeWrite : TablesKept r s.completeWrite := by
  unfold State.completeWrite
  split
  · exact h
  · split
    · exact h
    · next f _ =>
      extract_lets _ s₁ s₂
      have h₁ : TablesKept r s₁ := h.slots (by rfl) fun hs => Table.wf_put hs f.slot f.record
      have h₂ : TablesKept r s₂ := h₁.requesterComplete _ _
      exact startNext (h₂.congr (by rfl))

theorem markBad (slot : Nat) : TablesKept r (s.markBad slot) := by
  unfold State.markBad
  exact raise (h.slots (by rfl) (fun hs => Table.wf_drop hs slot)) _

theorem failVerify : TablesKept r s.failVerify := by
  unfold State.failVerify
  split
  · exact h
  · split
    · exact h
    · next f _ =>
      extract_lets _ s₁ slot
      have h₁ : TablesKept r s₁ := h.markBad _
      exact ite (h.congr (by rfl)) (ite (h₁.slots (by rfl) fun hs => Table.wf_drop hs slot) h.failStore)

/-! ## The minute -/

theorem countMinute : TablesKept r s.countMinute := (h.modWindow _ _).ite (h.tally _)

theorem clockMinute : TablesKept r s.clockMinute := h.ite (h.raise _)

theorem minute : TablesKept r s.minute := by
  refine clockMinute (foldl (expireWindows (durationTest (countMinute (h.congr (by rfl))))) ?_ _)
  exact fun b hu => hu.zeroMinute b

/-! ## Decisions of requests -/

theorem take {u : State} (content : ReplyContent) : TablesKept r ((Decision.take s content).after u) := h

theorem decideTip (n : Nat) : TablesKept r ((decideTip n s).after s) := by
  unfold Machine.decideTip
  split
  · exact h
  · split
    · exact h
    · next d hd =>
      split
      · exact h
      · next hst =>
        have hopen : d.state = .openGross := not_not.mp hst
        extract_lets mass estimated s₁ w s₂ s₃
        split
        · split
          · exact h
          · have h₁ : TablesKept r s₁ := h.modDelivery fun d' _ ⟨hsum, hlen, _⟩ => ⟨hsum, hlen, fun hc => nomatch hc⟩
            exact h₁.congr (by rfl)
        · have h₂ : TablesKept r s₂ := by
            refine h.modDelivery fun d' hd' ⟨hsum, _, hempty⟩ => ?_
            obtain rfl := Option.some.inj (hd.symm.trans hd')
            obtain ⟨hnil, -⟩ := hempty hopen
            refine ⟨by simpa using hsum, ?_, fun hc => nomatch hc⟩
            simp [hnil, Config.partsCapacity]
          exact (h₂.modWindow _ _).settleTest n

theorem decideVoid (n : Nat) : TablesKept r ((decideVoid n s).after s) := by
  unfold Machine.decideVoid
  repeat' split
  all_goals try exact h
  refine requestWrite (h.modDelivery ?_) _ _
  exact fun d _ ⟨hsum, hlen, _⟩ => ⟨hsum, hlen, fun hc => nomatch hc⟩

theorem decideNetFromStored (n : Nat) : TablesKept r ((decideNetFromStored n s).after s) := by
  unfold Machine.decideNetFromStored
  repeat' split
  all_goals try exact h
  exact ((h.reserve 1).modDelivery (by exact fun _ _ hp => hp)).requestWrite _ _

theorem decideDeliveryQuery (n : Nat) : TablesKept r ((decideDeliveryQuery n s).after s) := by
  unfold Machine.decideDeliveryQuery
  repeat' split
  all_goals exact h

theorem putVehicle (code : Nat) (v : Vehicle) : TablesKept r { s with vehicles := Table.put s.vehicles code v } :=
  h.others (by rfl) fun ⟨_, hv, hw, hg, hs⟩ => ⟨Table.wf_put hv _ _, hw, hg, hs⟩

theorem decideVehicleSet (code cls : Nat) : TablesKept r ((decideVehicleSet code cls s).after s) := by
  unfold Machine.decideVehicleSet
  repeat' split
  · exact h
  · exact h.putVehicle _ _
  · exact h
  · exact h.putVehicle _ _

theorem decideVehicleDrop (code : Nat) : TablesKept r ((decideVehicleDrop code s).after s) := by
  unfold Machine.decideVehicleDrop
  repeat' split
  all_goals try exact h
  exact h.others (by rfl) fun ⟨_, hv, hw, hg, hs⟩ => ⟨Table.wf_drop hv _, hw, hg, hs⟩

theorem putGrower (code : Nat) (g : Grower) : TablesKept r { s with growers := Table.put s.growers code g } :=
  h.others (by rfl) fun ⟨_, hv, hw, hg, hs⟩ => ⟨hv, hw, Table.wf_put hg _ _, hs⟩

theorem decideGrowerSet (code fibre : Nat) : TablesKept r ((decideGrowerSet code fibre s).after s) := by
  unfold Machine.decideGrowerSet
  repeat' split
  · exact h
  · exact h.putGrower _ _
  · exact h
  · exact h.putGrower _ _

theorem decideGrowerDrop (code : Nat) : TablesKept r ((decideGrowerDrop code s).after s) := by
  unfold Machine.decideGrowerDrop
  repeat' split
  all_goals try exact h
  exact h.others (by rfl) fun ⟨_, hv, hw, hg, hs⟩ => ⟨hv, hw, Table.wf_drop hg _, hs⟩

theorem decideGrowerQuery (code : Nat) : TablesKept r ((decideGrowerQuery code s).after s) := by
  unfold Machine.decideGrowerQuery
  repeat' split
  all_goals exact h

theorem decideSampleClose (n : Nat) : TablesKept r ((decideSampleClose n s).after s) := by
  unfold Machine.decideSampleClose
  repeat' split
  all_goals try exact h
  exact h.closeWindow _

theorem decideSampleResult (n brix pol : Nat) : TablesKept r ((decideSampleResult n brix pol s).after s) := by
  unfold Machine.decideSampleResult
  extract_lets s₁
  have h₁ : TablesKept r s₁ := h.modWindow _ _
  repeat' split
  all_goals try exact h
  exact requestWindowRecord (h₁.congr (by rfl)) _

theorem decideSampleVoid (n : Nat) : TablesKept r ((decideSampleVoid n s).after s) := by
  unfold Machine.decideSampleVoid
  repeat' split
  all_goals try exact h
  exact h.voidWindow _ _

theorem decideWindowQuery (n : Nat) : TablesKept r ((decideWindowQuery n s).after s) := by
  unfold Machine.decideWindowQuery
  repeat' split
  all_goals exact h

theorem decideBind (bridge pass vehicle cls insp wish grower delivery : Nat) :
    TablesKept r ((decideBind bridge pass vehicle cls insp wish grower delivery s).after s) := by
  unfold Machine.decideBind
  dsimp only
  repeat' split
  all_goals try exact h
  · exact (modGrower (congr (h.reserve 2) (by rfl)) _ _).bindBridge _ _
  · exact (h.reserve 1).bindBridge _ _

theorem decideUnbind (bridge : Nat) : TablesKept r ((decideUnbind bridge s).after s) := by
  unfold Machine.decideUnbind
  repeat' split
  all_goals try exact h
  exact (h.discardBinding _).goIdle _

theorem decideBridgeQuery (bridge : Nat) : TablesKept r ((decideBridgeQuery bridge s).after s) := by
  unfold Machine.decideBridgeQuery
  repeat' split
  all_goals exact h

theorem decideClearFault (bridge : Nat) : TablesKept r ((decideClearFault bridge s).after s) := by
  unfold Machine.decideClearFault
  dsimp only
  repeat' split
  all_goals try exact h
  exact ((h.modBridge _ _).restartTimers _).goIdle _

theorem decideZeroNow (bridge : Nat) : TablesKept r ((decideZeroNow bridge s).after s) := by
  unfold Machine.decideZeroNow
  repeat' split
  all_goals try exact h
  exact (h.modBridge _ _).take _

theorem decideConfigOpen (channel : Nat) : TablesKept r ((decideConfigOpen channel s).after s) := by
  unfold Machine.decideConfigOpen
  dsimp only
  repeat' split
  all_goals try exact h
  exact (h.modChannel _ _).take _

theorem decideConfigSet (channel : Nat) (es : List (Nat × Nat)) :
    TablesKept r ((decideConfigSet channel es s).after s) := by
  unfold Machine.decideConfigSet
  dsimp only
  repeat' split
  all_goals try exact h
  exact (h.modChannel _ _).take _

theorem decideConfigApply (channel : Nat) : TablesKept r ((decideConfigApply channel s).after s) := by
  unfold Machine.decideConfigApply
  dsimp only
  repeat' split
  all_goals try exact h
  · exact ((h.reserve 1).applyConfig _ _).take _
  · exact ((h.reserve 1).modChannel _ _).take _

theorem decideConfigDiscard (channel : Nat) : TablesKept r ((decideConfigDiscard channel s).after s) := by
  unfold Machine.decideConfigDiscard
  dsimp only
  repeat' split
  · exact h
  · exact h
  · exact ((h.modChannel _ _).giveBack 1).take _
  · exact (h.modChannel _ _).take _

theorem decideCalBegin (channel : Nat) : TablesKept r ((decideCalBegin channel s).after s) := by
  unfold Machine.decideCalBegin
  split
  · exact h
  · next b _ =>
    extract_lets _ go
    have hgo (entry : EntryState) : TablesKept r ((go entry).after s) := by
      unfold go
      repeat' split
      · exact h
      · exact h
      · exact ((h.reserve 1).modChannel _ _).enterCalibrating _ _
    split
    · exact hgo _
    · exact hgo _
    · exact hgo _
    · exact h
    · exact h

theorem decideCalZero (channel : Nat) : TablesKept r ((decideCalZero channel s).after s) := by
  unfold Machine.decideCalZero
  repeat' split
  all_goals try exact h
  exact (h.beginStep _ _).take _

theorem decideCalSpan (channel mass : Nat) : TablesKept r ((decideCalSpan channel mass s).after s) := by
  unfold Machine.decideCalSpan
  dsimp only
  repeat' split
  all_goals try exact h
  exact (h.beginStep _ _).take _

theorem calAbandon (b : BridgeNo) : TablesKept r ((s.calAbandon b).after s) := h.endSession _

theorem calCommit (b : BridgeNo) (x : Session) (zero span : Int) (mass : Nat) :
    TablesKept r ((s.calCommit b x zero span mass).after s) := by
  unfold State.calCommit
  split
  · exact (((h.modChannel _ _).endPeriod _).endSession _).notify _
  · exact (h.modChannel _ _).requestWrite _ _

theorem decideCalEnd (channel ending : Nat) : TablesKept r ((decideCalEnd channel ending s).after s) := by
  unfold Machine.decideCalEnd
  repeat' split
  all_goals try exact h
  · exact h.calAbandon _
  · exact h.calCommit _ _ _ _ _

theorem decideCalDefault (channel : Nat) : TablesKept r ((decideCalDefault channel s).after s) := by
  unfold Machine.decideCalDefault
  dsimp only
  repeat' split
  all_goals try exact h
  exact (((((h.reserve 1).modChannel _ _).endPeriod _).setZero _ _).requestWrite _ _).arise _ _

theorem decideLineSet (line : Nat) (es : List (Nat × Nat)) : TablesKept r ((decideLineSet line es s).after s) := by
  unfold Machine.decideLineSet
  dsimp only
  repeat' split
  all_goals try exact h
  exact h.lineSet _ _

theorem decideProfileLoad (profile : Nat) (es : List (Nat × Nat)) :
    TablesKept r ((decideProfileLoad profile es s).after s) := by
  unfold Machine.decideProfileLoad
  dsimp only
  repeat' split
  all_goals try exact h
  exact h.congr (by rfl)

theorem decideProfileRead (profile : Nat) : TablesKept r ((decideProfileRead profile s).after s) := by
  unfold Machine.decideProfileRead
  repeat' split
  all_goals exact h

theorem decideShiftMark (letter : Nat) : TablesKept r ((decideShiftMark letter s).after s) := by
  unfold Machine.decideShiftMark
  dsimp only
  repeat' split
  all_goals try exact h
  exact ((h.reserve 1).triggerClose _).beginShift _ _ _

theorem decideSeasonOpen : TablesKept r ((decideSeasonOpen s).after s) := by
  unfold Machine.decideSeasonOpen
  split
  · exact h
  · refine requestWrite (others (h.reserve 1).seasonWindows (by rfl) ?_) _ _
    exact fun ⟨_, hv, hw, hg, hs⟩ => ⟨hv, hw, Table.wf_mapValues hg _, hs⟩

theorem decideExportMark (n : Nat) : TablesKept r ((decideExportMark n s).after s) := by
  unfold Machine.decideExportMark
  dsimp only
  repeat' split
  · exact h
  · exact judgeStore (h.congr (by rfl))

theorem decideStoreRead (n : Nat) : TablesKept r ((decideStoreRead n s).after s) := by
  unfold Machine.decideStoreRead
  repeat' split
  all_goals exact h

theorem decideTimeSet (x : MillTime) : TablesKept r ((decideTimeSet x s).after s) := by
  unfold Machine.decideTimeSet
  repeat' split
  · exact h.congr (by rfl)
  · exact h

theorem decideReportStart (set : Nat) (tag : Byte) : TablesKept r ((decideReportStart set tag s).after s) := by
  unfold Machine.decideReportStart
  repeat' split
  all_goals try exact h
  exact h.congr (by rfl)

theorem decideReportStop (slot : Nat) : TablesKept r ((decideReportStop slot s).after s) := by
  unfold Machine.decideReportStop
  repeat' split
  all_goals try exact h
  exact h.congr (by rfl)

theorem decideLinkSet (minRun maxRun : Nat) : TablesKept r ((decideLinkSet minRun maxRun s).after s) := by
  unfold Machine.decideLinkSet
  split
  · exact h
  · exact h.congr (by rfl)

/-- No owner's decision breaks the tables. -/
theorem decideRequest (q : Request) (tag : Byte) : TablesKept r ((decideRequest q tag s).after s) := by
  cases q with
  | status => exact h
  | attention => exact h.congr (by rfl)
  | linkSet _ _ => exact h.decideLinkSet _ _
  | timeSet _ => exact h.decideTimeSet _
  | reportStart _ => exact h.decideReportStart _ _
  | reportStop _ => exact h.decideReportStop _
  | bind _ _ _ _ _ _ _ _ => exact h.decideBind _ _ _ _ _ _ _ _
  | unbind _ => exact h.decideUnbind _
  | bridgeQuery _ => exact h.decideBridgeQuery _
  | clearFault _ => exact h.decideClearFault _
  | zeroNow _ => exact h.decideZeroNow _
  | tip _ => exact h.decideTip _
  | voidDelivery _ => exact h.decideVoid _
  | netFromStored _ => exact h.decideNetFromStored _
  | deliveryQuery _ => exact h.decideDeliveryQuery _
  | vehicleSet _ _ => exact h.decideVehicleSet _ _
  | vehicleDrop _ => exact h.decideVehicleDrop _
  | growerSet _ _ => exact h.decideGrowerSet _ _
  | growerDrop _ => exact h.decideGrowerDrop _
  | growerQuery _ => exact h.decideGrowerQuery _
  | sampleClose _ => exact h.decideSampleClose _
  | sampleResult _ _ _ => exact h.decideSampleResult _ _ _
  | sampleVoid _ => exact h.decideSampleVoid _
  | windowQuery _ => exact h.decideWindowQuery _
  | profileLoad _ _ => exact h.decideProfileLoad _ _
  | profileRead _ => exact h.decideProfileRead _
  | shiftMark _ => exact h.decideShiftMark _
  | seasonOpen => exact h.decideSeasonOpen
  | configOpen _ => exact h.decideConfigOpen _
  | configSet _ _ => exact h.decideConfigSet _ _
  | configApply _ => exact h.decideConfigApply _
  | configDiscard _ => exact h.decideConfigDiscard _
  | calBegin _ => exact h.decideCalBegin _
  | calZero _ => exact h.decideCalZero _
  | calSpan _ _ => exact h.decideCalSpan _ _
  | calEnd _ _ => exact h.decideCalEnd _ _
  | calDefault _ => exact h.decideCalDefault _
  | lineSet _ _ => exact h.decideLineSet _ _
  | storeRead _ => exact h.decideStoreRead _
  | exportMark _ => exact h.decideExportMark _

/-! ## The link -/

omit h in
/-- An answered request leaves what its decision leaves of the tables. -/
theorem answer {d : Decision} (hd : TablesKept r (d.after s)) (kind tag : Byte) :
    TablesKept r (s.answer kind tag d) := by
  rw [State.answer_eq]
  exact hd.congr (by rfl)

theorem dispatch (f : Frame) : TablesKept r (s.dispatch f) := by
  unfold State.dispatch
  split
  · exact answer (h.decideRequest _ _) _ _
  · exact h.placeReply _
  · exact answer h _ _

omit h in
theorem settle (fuel : Nat) : ∀ {s : State}, TablesKept r s → TablesKept r (s.settle fuel) := by
  induction fuel with
  | zero => exact fun h => h.pump
  | succ fuel ih =>
    intro s h
    unfold State.settle
    extract_lets s₁
    have h₁ : TablesKept r s₁ := h.pump
    split
    · exact h₁
    · exact ite (ih (dispatch (h₁.congr (by rfl)) _)) h₁

theorem settleLink : TablesKept r s.settleLink := settle _ h

theorem receiveFrame (f : Frame) : TablesKept r (s.receiveFrame f) := ite (h.congr (by rfl)) (h.raise _)

theorem feedByte (b : Byte) : TablesKept r (s.feedByte b) := by
  unfold State.feedByte
  split
  · exact ite (h.congr (by rfl)) h
  · exact ite (raise (h.congr (by rfl)) _) (h.congr (by rfl))
  · refine ite (h.congr (by rfl)) ?_
    extract_lets s₁
    have h₁ : TablesKept r s₁ := h.congr (by rfl)
    split
    · exact (h₁.receiveFrame _).settleLink
    · exact h₁.raise _

theorem gap : TablesKept r s.gap := raise (h.congr (by rfl)) _

theorem badLength (l : Byte) : TablesKept r (s.badLength l) := by
  unfold State.badLength
  split
  · exact (h.feedByte _).feedByte _
  · exact h.feedByte _
  · exact h

theorem endFrame : TablesKept r s.endFrame := by
  unfold State.endFrame
  split
  · exact h
  · exact h.congr (by rfl)

theorem submit (q : Request) (tag : Byte) : TablesKept r (s.submit q tag) :=
  ite (answer (h.decideRequest q tag) _ _).settleLink (h.receiveFrame _).settleLink

/-! ## The resets -/

theorem comeUp (minutes seconds : Nat) (stopped : Bool) : TablesKept r (s.comeUp minutes seconds stopped) := by
  refine raise (h.others (by rfl) ?_) _
  exact fun ⟨_, hv, hw, hg, hs⟩ => ⟨hv, hw, List.Pairwise.map _ (fun _ _ hab => hab) hg, hs⟩

/-- What RESTART does after the fresh start is made of operations that keep the tables. -/
theorem started (minutes seconds : Nat) (stopped : Bool) (failing : Nat) :
    TablesKept r (s.started minutes seconds stopped failing) := by
  refine State.alarmed_keeps (fun _ _ hu => hu.notify _) (fun _ _ _ hu => hu.raise _) ?_
  refine State.bridgesComeUp_keeps (fun _ _ _ hu => hu.enterLocked _ _ _) (fun _ _ hu => hu.congr (by rfl)) ?_
  refine State.askAgain_keeps (fun _ _ _ hu => hu.requestWrite _ _) ?_
  refine State.settleWindows_keeps (fun _ _ _ hu => hu.markVoid _ _) (fun _ hu => hu.raise _) ?_
  refine State.scanned_keeps (fun _ _ hu => hu.markBad _) (fun _ hu => ?_) (fun _ _ hu => hu.congr (by rfl)) failing
    (h.comeUp minutes seconds stopped)
  exact hu.slots (by rfl) fun hs => Table.wf_drop hs _

omit h in
theorem blank (s : State) : TablesKept s s.blank := by
  rw [State.blank_eq]
  exact ⟨fun _ => State.reset_canonical, fun _ => State.reset_partsSound⟩

end

theorem restart (s : State) (minutes seconds : Nat) (stopped : Bool) (failing : Nat) :
    TablesKept s (s.restart minutes seconds stopped failing) := by
  cases hmark : s.store.formatMark with
  | false =>
    unfold State.restart
    rw [if_pos hmark]
    exact blank s
  | true =>
    rw [State.restart_formatted minutes seconds stopped failing hmark]
    exact ((refl s).started minutes seconds stopped failing).settleLink

/-! ## Every command and every step -/

theorem exec {c : Instr} {s t : State} (he : exec c s = .next t) : TablesKept s t := by
  have h := refl s
  cases c
  all_goals obtain rfl := Host.Outcome.next.inj he
  case unknownRequestKind => exact (h.receiveFrame _).settleLink
  case frameReceived => exact (h.foldl (fun _ hu => hu.feedByte _) _).settleLink
  case frameBadLength => exact (h.badLength _).settleLink
  case frameGap => exact h.gap.settleLink
  case transmitComplete => exact h.endFrame.settleLink
  case rawLevelChange => exact (h.setInput _ _).settleLink
  case inputHoldExpiry => exact (h.holdExpired _).settleLink
  case clearHoldExpiry => exact (h.clearHoldExpired _).settleLink
  case bindingExpiry => exact (h.bindExpired _).settleLink
  case rangePersistenceExpiry => exact (h.persistenceExpired _ _).settleLink
  case strokeConfirmExpiry => exact h.confirmExpired.settleLink
  case scPulseEnd => exact settleLink (h.congr (by rfl))
  case scGapEnd => exact settleLink (h.congr (by rfl))
  case calStepTimeout => exact (h.stepTimeout _).settleLink
  case calIdleTimeout => exact (h.sessionTimeout _).settleLink
  case minuteEvent => exact h.minute.settleLink
  case runningMinutesLimit => exact h.durationTest.settleLink
  case resultDeadlineExpiry => exact (h.expireWindow _).settleLink
  case zeroDeadlineExpiry => exact (h.zeroMinute _).settleLink
  case loadCellConversion => exact (h.convert _ _ _).settleLink
  case stableEnding => exact (h.periodStable _).settleLink
  case wireOffRaise => exact (h.wireOffRun _).settleLink
  case wireOffClear => exact (h.wireClearRun _).settleLink
  case writeComplete => exact h.completeWrite.settleLink
  case verifyFailure => exact h.failVerify.settleLink
  case restart => exact restart s _ _ _ _
  case blankStart => exact blank s
  all_goals exact h.submit _ _

theorem step {s t : State} (hs : step s = .next t) : TablesKept s t := by
  cases hq : s.pending with
  | nil =>
    rw [step_of_empty hq] at hs
    obtain rfl := Host.Outcome.next.inj hs
    exact (refl s).congr (by rfl)
  | cons c rest =>
    rw [step_of_cons hq] at hs
    have he := exec hs
    exact ⟨he.canonical, he.parts⟩

end TablesKept

/-- Settles O4: every step keeps the tables, `TablesKept.step`. -/
theorem canonicalTablesAreKept : Obligations.CanonicalTablesAreKept :=
  fun _ _ hs ht => (TablesKept.step ht).canonical hs

/-- Settles O6: every step keeps the tables, `TablesKept.step`; the canonical form is not needed. -/
theorem partsAddUpToTheCrushedMass : Obligations.PartsAddUpToTheCrushedMass :=
  fun _ _ _ hs ht => (TablesKept.step ht).parts hs

end Sys2Proof.Machine

/-! SUPPORT. What a request command does where its owner's decision is known. The queries and BIND. -/
namespace Sys2Proof.Machine

open Sys2Proof

section

variable {s : State} {tag kind : Byte}

/-! ## Request commands by their decisions -/

/-- A request command that its owner takes, at a ready port. -/
theorem exec_taken (h : s.ready) (r : Request) {t : State} {content : ReplyContent}
    (hd : decideRequest r tag s = .take t content) (hk : BitVec.ofNat 8 (requestKind r) + 0x80 = kind) :
    exec (r.command tag) s = .next (t.okReply kind tag content) := by
  rw [exec_command, State.submit_take h r tag t content hd, hk]

/-- A request command that its owner refuses, at a ready port. -/
theorem exec_refused (h : s.ready) (r : Request) {code : ResultCode} (hd : decideRequest r tag s = .refuse code)
    (hk : BitVec.ofNat 8 (requestKind r) + 0x80 = kind) :
    exec (r.command tag) s = .next (s.refusal kind tag code) := by
  rw [exec_command, State.submit_refuse h r tag code hd, hk]

/-! ## Queries -/

theorem decideDeliveryQuery_found {n : Nat} {d : Delivery} (h1 : 1 ≤ n) (h2 : n ≤ 999999) (hd : s.delivery? n = some d) :
    decideDeliveryQuery n s = .take s (.delivery (s.deliveryReport n d)) := by
  simp [decideDeliveryQuery, numberBad_ok h1 h2, hd]

theorem decideWindowQuery_found {n : Nat} {w : Window} (h1 : 1 ≤ n) (h2 : n ≤ 999999) (hw : s.window? n = some w) :
    decideWindowQuery n s = .take s (.window (s.windowReport n w)) := by
  simp [decideWindowQuery, numberBad_ok h1 h2, hw]

theorem State.minutesLeft_eq (w : Window) :
    s.minutesLeft w = if w.state = .closed then w.deadline.map fun d => d - (s.clock.minutes + 1) else none := by
  unfold State.minutesLeft
  cases w.state <;> rfl

theorem decideBridgeQuery_code (b : BridgeNo) :
    decideBridgeQuery (bridgeCode b) s = .take s (.bridge b (s.bridgeReport b)) := by
  simp [decideBridgeQuery]

/-- STORE READ finds the first slot that holds the sequence number (R180). -/
theorem decideStoreRead_found {k : Nat} {x : StoredRecord} {older newer : Table StoredRecord}
    (hs : s.store.slots = older ++ (k, x) :: newer) (h1 : 1 ≤ x.sequence) (h2 : x.sequence ≤ s.store.lastSequence)
    (hn : ∀ p ∈ older, p.2.sequence ≠ x.sequence) :
    decideStoreRead x.sequence s = .take s (.record (decide (x.check ≠ recordCheck x)) x) := by
  have hfind : s.store.slots.find? (fun p => p.2.sequence == x.sequence) = some (k, x) := by
    rw [hs, List.find?_append, List.find?_eq_none.mpr (by simpa using hn)]
    simp
  have hcheck : (x.check != recordCheck x) = decide (x.check ≠ recordCheck x) := by
    rw [Bool.eq_iff_iff]
    simp
  simp only [decideStoreRead, if_neg (show ¬ x.sequence = 0 by omega), if_neg (Nat.not_lt.mpr h2), hfind, hcheck]

theorem decideStoreRead_unwritten {n : Nat} (h1 : 1 ≤ n) (h2 : s.store.lastSequence < n) :
    decideStoreRead n s = .refuse .notFound := by
  simp only [decideStoreRead, if_neg (show ¬ n = 0 by omega), if_pos h2]

end

/-- Settles O16, query by query. -/
theorem queriesShowWhatStands : Obligations.QueriesShowWhatStands := by
  refine ⟨fun s tag h => exec_taken h .status rfl rfl, fun s tag h => ⟨?_, ?_, ?_, ⟨?_, ?_, ?_⟩, ?_, ?_⟩⟩
  · intro n d h1 h2 hd
    exact exec_taken h (.deliveryQuery n) (decideDeliveryQuery_found h1 h2 hd) rfl
  · intro n w h1 h2 hw
    rw [← State.minutesLeft_eq]
    exact exec_taken h (.windowQuery n) (decideWindowQuery_found h1 h2 hw) rfl
  · intro b
    exact exec_taken h (.bridgeQuery (bridgeCode b)) (decideBridgeQuery_code b) rfl
  · exact exec_taken h (.profileRead 0) rfl rfl
  · exact exec_taken h (.profileRead 1) rfl rfl
  · exact exec_taken h (.profileRead 2) rfl rfl
  · intro k r older newer hs h1 h2 hn
    exact exec_taken h (.storeRead r.sequence) (decideStoreRead_found hs h1 h2 hn) rfl
  · intro n hn
    exact exec_refused h (.storeRead n) (decideStoreRead_unwritten hn.2 hn.1) rfl

section

variable {s : State}

/-! ## BIND -/

theorem State.grossFieldsBad_iff {v cls insp wish g : Nat} : s.grossFieldsBad v cls insp wish g = true ↔
    g = 0 ∨ 9999 < g ∨ 9 < insp ∨ 1 < wish ∨ (s.vehicle? v = none ∧ 3 < cls) := by
  simp [State.grossFieldsBad, or_assoc]

theorem numberBad_iff {n : Nat} : numberBad n = true ↔ n = 0 ∨ 999999 < n := by
  rw [numberBad, Bool.or_eq_true, decide_eq_true_iff, decide_eq_true_iff]
  rfl

/-- The bridge whose tare binding names a delivery is found wherever there is one (R95). -/
theorem State.tareBridge_isSome {n : Nat} (h : ∃ b x, (s.bridge b).binding = some x ∧ x.pass = .tare n) :
    (s.tareBridge n).isSome = true := by
  obtain ⟨b, x, hx, hp⟩ := h
  rw [State.tareBridge, List.find?_isSome]
  exact ⟨b, by cases b <;> decide, by simp [hx, hp]⟩

/-! ### The tests that the bridge answers (R96, tests 4 to 6) -/

theorem State.bindRefusal_bound {b : BridgeNo} (h : (s.bridge b).state = .bound) :
    s.bindRefusal b = some .already := by
  simp only [State.bindRefusal, h]

theorem State.bindRefusal_busy {b : BridgeNo} (h : (s.bridge b).state = .capture ∨ (s.bridge b).state = .clearing ∨
    (s.bridge b).state = .calibrating) : s.bindRefusal b = some .wrongState := by
  rcases h with h | h | h <;> simp only [State.bindRefusal, h]

theorem State.bindRefusal_locked {b : BridgeNo} (h : (s.bridge b).state = .locked) :
    s.bindRefusal b = some .locked := by
  simp only [State.bindRefusal, h]

theorem State.bindRefusal_open {b : BridgeNo} (h : (s.bridge b).state = .idle ∨ (s.bridge b).state = .arrived) :
    s.bindRefusal b = if (s.bridge b).zeroDue then some .locked else none := by
  rcases h with h | h <;> simp only [State.bindRefusal, h]

/-! ### The tests that the tables answer (R96, tests 7 to 15) -/

theorem State.grossRefusal_notFound {g : Nat} (h : s.grower? g = none) : s.grossRefusal g = some .notFound := by
  simp [State.grossRefusal, h]

theorem State.grossRefusal_full {g : Nat} (h : s.grower? g ≠ none)
    (hf : 96 ≤ s.dt.records.length + s.dt.reserved ∨ 999999 ≤ s.dt.counter + s.dt.reserved) :
    s.grossRefusal g = some .full := by
  unfold State.grossRefusal
  rw [if_neg (by simpa using h)]
  exact if_pos hf

/-- With the grower there and room in the table, the store alone can refuse a gross pass. -/
theorem State.grossRefusal_store {g : Nat} (h : s.grower? g ≠ none)
    (hr : s.dt.records.length + s.dt.reserved < 96) (hc : s.dt.counter + s.dt.reserved < 999999) :
    s.grossRefusal g =
      if s.store.state = .failed then some .storeFailed
      else if s.free < s.store.reserved + 66 then some .storeLow
      else none := by
  have hroom : ¬ (Config.deliveryCapacity ≤ s.dt.records.length + s.dt.reserved ∨
      Config.numberLimit ≤ s.dt.counter + s.dt.reserved) := by
    simp only [Config.deliveryCapacity, Config.numberLimit]
    omega
  unfold State.grossRefusal
  rw [if_neg (by simpa using h), if_neg hroom]
  rfl

theorem State.tareRefusal_notFound {v n : Nat} (h : s.delivery? n = none) : s.tareRefusal v n = some .notFound := by
  simp only [State.tareRefusal, h]

theorem State.tareRefusal_wrongState {v n : Nat} {d : Delivery} (h : s.delivery? n = some d)
    (hd : d.netting.isSome = true ∨ d.pendingNet.isSome = true ∨ d.state = .settling ∨ d.state = .voiding) :
    s.tareRefusal v n = some .wrongState := by
  simp only [State.tareRefusal, h, if_pos hd]

/-- Of a delivery that can still be netted: its bridge, its vehicle, then the store. -/
theorem State.tareRefusal_open {v n : Nat} {d : Delivery} (h : s.delivery? n = some d) (hn : d.netting = none)
    (hp : d.pendingNet = none) (hs : d.state ≠ .settling) (hv : d.state ≠ .voiding) :
    s.tareRefusal v n =
      if (s.tareBridge n).isSome then some .inUse
      else if v ≠ d.vehicle then some .mismatch
      else s.reservationRefusal 1 := by
  simp only [State.tareRefusal, h]
  rw [if_neg (by simp [hn, hp, hs, hv])]

/-! ### The decision -/

variable {b : BridgeNo} {v cls insp wish g n : Nat}

theorem bridgeOf_eq_some {m : Nat} (h : bridgeOf m = some b) : m = bridgeCode b := by
  unfold bridgeOf at h
  split at h
  all_goals cases h
  all_goals rfl

theorem decideBind_badField {bridge pass : Nat} (h : bridge = 0 ∨ 4 < bridge ∨ pass = 0 ∨ 2 < pass ∨ v = 0) :
    decideBind bridge pass v cls insp wish g n s = .refuse .badField := by
  unfold decideBind
  split
  · rfl
  · next b hb =>
    have hbridge : ¬ (bridge = 0 ∨ 4 < bridge) := fun hbad => by simp [bridgeOf_bad bridge hbad] at hb
    exact if_pos (by omega)

theorem decideBind_gross_badField (hb : s.grossFieldsBad v cls insp wish g = true) :
    decideBind (bridgeCode b) 1 v cls insp wish g n s = .refuse .badField := by
  by_cases hv : v = 0
  · exact decideBind_badField (by omega)
  · simp [decideBind, hv, hb]

theorem decideBind_tare_badField (hb : numberBad n = true) :
    decideBind (bridgeCode b) 2 v cls insp wish g n s = .refuse .badField := by
  by_cases hv : v = 0
  · exact decideBind_badField (by omega)
  · simp [decideBind, hv, hb]

/-- The refusal of a BIND whose fields are good: the bridge is asked first, then the tables that its pass needs (R96). -/
theorem decideBind_gross_refuse {code : ResultCode} (hv : 1 ≤ v) (hb : s.grossFieldsBad v cls insp wish g = false)
    (hr : (s.bindRefusal b).or (s.grossRefusal g) = some code) :
    decideBind (bridgeCode b) 1 v cls insp wish g n s = .refuse code := by
  cases hbridge : s.bindRefusal b with
  | some c =>
    obtain rfl : c = code := by simpa [hbridge] using hr
    simp [decideBind, Nat.ne_of_gt hv, hb, hbridge]
  | none =>
    have ht : s.grossRefusal g = some code := by simpa [hbridge] using hr
    simp [decideBind, Nat.ne_of_gt hv, hb, hbridge, ht]

theorem decideBind_tare_refuse {code : ResultCode} (hv : 1 ≤ v) (hb : numberBad n = false)
    (hr : (s.bindRefusal b).or (s.tareRefusal v n) = some code) :
    decideBind (bridgeCode b) 2 v cls insp wish g n s = .refuse code := by
  cases hbridge : s.bindRefusal b with
  | some c =>
    obtain rfl : c = code := by simpa [hbridge] using hr
    simp [decideBind, Nat.ne_of_gt hv, hb, hbridge]
  | none =>
    have ht : s.tareRefusal v n = some code := by simpa [hbridge] using hr
    simp [decideBind, Nat.ne_of_gt hv, hb, hbridge, ht]

theorem decideBind_gross_take (hv : 1 ≤ v) (hb : s.grossFieldsBad v cls insp wish g = false)
    (hbridge : s.bindRefusal b = none) (ht : s.grossRefusal g = none) :
    let x : Binding :=
      { vehicle := v, pass := .gross (s.bindClass v cls) g insp (wish == 1), bindTime := s.now
        life := s.shift.working.bindLife }
    let r := s.reserve 2
    decideBind (bridgeCode b) 1 v cls insp wish g n s =
      .take (State.bindBridge (State.modGrower { r with dt := { r.dt with reserved := r.dt.reserved + 1 } } g
        fun y => { y with openCount := y.openCount + 1 }) b x) (.binding b x) := by
  simp [decideBind, Nat.ne_of_gt hv, hb, hbridge, ht]

theorem decideBind_tare_take (hv : 1 ≤ v) (hb : numberBad n = false) (hbridge : s.bindRefusal b = none)
    (ht : s.tareRefusal v n = none) :
    let x : Binding := { vehicle := v, pass := .tare n, bindTime := s.now, life := s.shift.working.bindLife }
    decideBind (bridgeCode b) 2 v cls insp wish g n s = .take ((s.reserve 1).bindBridge b x) (.binding b x) := by
  simp [decideBind, Nat.ne_of_gt hv, hb, hbridge, ht]

theorem State.bindClass_eq : s.bindClass v cls = ((s.vehicle? v).map (·.cls)).getD cls := by
  unfold State.bindClass
  cases s.vehicle? v <;> rfl

end

/-- A BIND at a ready port is decided by `decideBind`, whose refusals come in R96's order. -/
theorem exec_bind_refused {s : State} (h : s.ready) {tag : Byte} {bridge pass v cls insp wish g n : Nat}
    {code : ResultCode} (hd : decideBind bridge pass v cls insp wish g n s = .refuse code) :
    exec (.bind tag bridge pass v cls insp wish g n) s = .next (s.refusal 0xA0 tag code) :=
  exec_refused h (.bind bridge pass v cls insp wish g n) hd rfl

/-- Settles O19: the two passes by `decideBind_gross_take` and `decideBind_tare_take`, the refusals by the tests of the
bridge and of the tables, one after the other. -/
theorem bindsTakeTheirReservations : Obligations.BindsTakeTheirReservations := by
  refine ⟨?_, ?_, ?_⟩
  · intro s tag b v cls insp wish g d y h hv hg hg' hinsp hwish hcls hstate hzero hy hrecords hcounter hstore hfree
    have hbad : s.grossFieldsBad v cls insp wish g = false := by
      rw [Bool.eq_false_iff, ne_eq, State.grossFieldsBad_iff]
      rintro (h1 | h1 | h1 | h1 | ⟨h1, h2⟩)
      all_goals first | omega | exact absurd (hcls h1) (by omega)
    have hbridge : s.bindRefusal b = none := by simp [State.bindRefusal_open hstate, hzero]
    have htables : s.grossRefusal g = none := by
      rw [State.grossRefusal_store (by simp [hy]) hrecords hcounter, if_neg hstore, if_neg (by omega)]
    rw [← State.bindClass_eq]
    exact exec_taken h (.bind (bridgeCode b) 1 v cls insp wish g d) (decideBind_gross_take hv hbad hbridge htables) rfl
  · intro s tag b v cls insp wish g n d h hv hn hn' hstate hzero hd hnet hpend hsettling hvoiding hnames hvehicle hstore
      hfree
    have hbridge : s.bindRefusal b = none := by simp [State.bindRefusal_open hstate, hzero]
    have htables : s.tareRefusal v n = none := by
      rw [State.tareRefusal_open hd hnet hpend hsettling hvoiding, State.tareBridge_none hnames, if_neg (by simp),
        if_neg (not_not.mpr hvehicle), State.reservationRefusal_none 1 hstore hfree]
    exact exec_taken h (.bind (bridgeCode b) 2 v cls insp wish g n)
      (decideBind_tare_take hv (numberBad_ok hn hn') hbridge htables) rfl
  · intro s tag bridge pass v cls insp wish g n h refused grossBad tareBad
    have refuse {code : ResultCode} (hd : decideBind bridge pass v cls insp wish g n s = .refuse code) :
        refused code := exec_bind_refused h hd
    refine ⟨fun hf => refuse (decideBind_badField hf), ?_, ?_, ?_⟩
    · rintro rfl hbad
      cases hb : bridgeOf bridge with
      | none => exact refuse (by simp [decideBind, hb])
      | some b =>
        obtain rfl := bridgeOf_eq_some hb
        exact refuse (decideBind_gross_badField (State.grossFieldsBad_iff.mpr hbad))
    · rintro rfl hbad
      cases hb : bridgeOf bridge with
      | none => exact refuse (by simp [decideBind, hb])
      | some b =>
        obtain rfl := bridgeOf_eq_some hb
        exact refuse (decideBind_tare_badField (numberBad_iff.mpr hbad))
    · rintro b rfl hv hpass
      have gross {code : ResultCode} (hp : pass = 1) (hr : (s.bindRefusal b).or (s.grossRefusal g) = some code) :
          refused code := by
        subst hp
        obtain ⟨-, hgood⟩ := hpass.resolve_right (by omega)
        have hok : s.grossFieldsBad v cls insp wish g = false := by
          rwa [Bool.eq_false_iff, ne_eq, State.grossFieldsBad_iff]
        exact refuse (decideBind_gross_refuse hv hok hr)
      have tare {code : ResultCode} (hp : pass = 2) (hr : (s.bindRefusal b).or (s.tareRefusal v n) = some code) :
          refused code := by
        subst hp
        obtain ⟨-, hgood⟩ := hpass.resolve_left (by omega)
        have hok : numberBad n = false := by rwa [Bool.eq_false_iff, ne_eq, numberBad_iff]
        exact refuse (decideBind_tare_refuse hv hok hr)
      have byBridge {code : ResultCode} (hr : s.bindRefusal b = some code) : refused code :=
        hpass.elim (fun hp => gross hp.1 (by rw [hr]; rfl)) fun hp => tare hp.1 (by rw [hr]; rfl)
      refine ⟨fun hs => byBridge (State.bindRefusal_bound hs), fun hs => byBridge (State.bindRefusal_busy hs),
        fun hs => byBridge (State.bindRefusal_locked hs), fun hs => ?_⟩
      have hopen := State.bindRefusal_open hs
      refine ⟨fun hz => byBridge (by rw [hopen, if_pos hz]), fun hz hp => ?_, fun hz hp => ?_⟩
      · have tables {code : ResultCode} (hr : s.grossRefusal g = some code) : refused code :=
          gross hp (by rw [hopen, hz, hr]; rfl)
        refine ⟨fun hg => tables (State.grossRefusal_notFound hg), fun hg => ?_⟩
        refine ⟨fun hf => tables (State.grossRefusal_full hg hf), fun hrecords hcounter => ?_⟩
        have hstore := State.grossRefusal_store hg hrecords hcounter
        refine ⟨fun hf => tables (by rw [hstore, if_pos hf]), fun hf hlow => tables ?_⟩
        rw [hstore, if_neg hf, if_pos hlow]
      · have tables {code : ResultCode} (hr : s.tareRefusal v n = some code) : refused code :=
          tare hp (by rw [hopen, hz, hr]; rfl)
        refine ⟨fun hd => tables (State.tareRefusal_notFound hd), fun d hd => ?_⟩
        refine ⟨fun hbad => tables (State.tareRefusal_wrongState hd hbad), fun hnet hpend hsettling hvoiding => ?_⟩
        have hrest := State.tareRefusal_open (v := v) hd hnet hpend hsettling hvoiding
        refine ⟨fun hnamed => tables ?_, fun hnames => ?_⟩
        · rw [hrest, if_pos (State.tareBridge_isSome hnamed)]
        · rw [State.tareBridge_none hnames, if_neg (by simp)] at hrest
          refine ⟨fun hv => tables ?_, fun hv hf => tables ?_, fun hv hf hlow => tables ?_⟩
          · rw [hrest, if_pos hv]
          · rw [hrest, if_neg (not_not.mpr hv), State.reservationRefusal, if_pos hf]
          · rw [hrest, if_neg (not_not.mpr hv), State.reservationRefusal, if_neg hf, if_pos hlow]

end Sys2Proof.Machine

/-! SUPPORT. TIP and the settlement test. -/
namespace Sys2Proof.Machine

open Sys2Proof

section

variable {s : State} {n : Nat} {d : Delivery}

@[simp] theorem State.modDelivery_delivery? (f : Delivery → Delivery) :
    (s.modDelivery n f).delivery? n = (s.delivery? n).map f := Table.find_modify_self _ _ _

theorem State.modDelivery_delivery?_ne {m : Nat} (f : Delivery → Delivery) (h : m ≠ n) :
    (s.modDelivery n f).delivery? m = s.delivery? m := Table.find_modify_other _ _ h

/-! ## The settlement test (R21) -/

theorem State.settleTest_of_not_ready (h : ∀ d, s.delivery? n = some d → s.readyToSettle d = false) :
    s.settleTest n = s := by
  unfold State.settleTest
  split
  · rfl
  · next d hd => exact if_neg (by simp [h d hd])

theorem State.readyToSettle_of_unnetted (h : d.netting = none) : s.readyToSettle d = false := by
  simp [State.readyToSettle, h]

theorem State.readyToSettle_of_state (h : d.state ≠ .crushed) : s.readyToSettle d = false := by
  simp [State.readyToSettle, h]

theorem State.readyToSettle_of_part {p : Part} (hp : p ∈ d.parts) (h : s.partSettled p = false) :
    s.readyToSettle d = false := by
  have : d.parts.all s.partSettled = false := List.all_eq_false.mpr ⟨p, hp, by simp [h]⟩
  simp [State.readyToSettle, this]

/-! ## TIP (R16 to R18) -/

theorem State.tipMass_netted {x : Netting} (h : d.netting = some x) : s.tipMass d = x.net := by
  simp only [State.tipMass, h]

/-- The estimate of R17; a tare at or above the gross leaves no cane. -/
theorem State.tipMass_estimated (h : d.netting = none) :
    let tare := ((s.storedTare d.vehicle).map (·.kg)).getD (s.shift.working.tares.getD d.cls 0)
    let cane := d.gross.kg - tare
    s.tipMass d = cane - cane * s.shift.working.trash.getD d.inspection 0 / 1000 := by
  intro tare cane
  have htare : s.estimateTare d = tare := by
    unfold State.estimateTare tare
    cases s.storedTare d.vehicle <;> rfl
  simp only [State.tipMass, h, htare]
  split
  · rfl
  · next hle =>
    have hcane : cane = 0 := Nat.sub_eq_zero_of_le (Nat.not_lt.mp hle)
    simp [hcane]

variable (h1 : 1 ≤ n) (h2 : n ≤ 999999) (hd : s.delivery? n = some d)

include h1 h2 hd

theorem decideTip_queued (hs : d.state = .openGross) (hm : 0 < s.tipMass d) (hf : s.feed.length < 48) :
    decideTip n s = .take { s.modDelivery n (fun x => { x with
        queueMass := s.tipMass d, estimated := d.netting.isNone, state := .queued }) with feed := s.feed ++ [n] }
      (.tipped (s.tipMass d) d.netting.isNone) := by
  have hroom : ¬ Config.feedCapacity ≤ s.feed.length := Nat.not_le.mpr hf
  simp [decideTip, numberBad_ok h1 h2, hd, hs, hm, hroom]

theorem decideTip_full (hs : d.state = .openGross) (hm : 0 < s.tipMass d) (hf : 48 ≤ s.feed.length) :
    decideTip n s = .refuse .full := by
  have hfull : Config.feedCapacity ≤ s.feed.length := hf
  simp [decideTip, numberBad_ok h1 h2, hd, hs, hm, hfull]

/-- An un-netted delivery with no cane is CRUSHED at once, and cannot settle before its netting (R18, R21). -/
theorem decideTip_nominal (hs : d.state = .openGross) (hn : d.netting = none) (hm : s.tipMass d = 0) :
    decideTip n s = .take ((s.modDelivery n fun x => { x with
        queueMass := 0, estimated := true, state := .crushed, parts := x.parts ++ [⟨s.openNumber, 0⟩]
        nominalPart := true }).modWindow s.openNumber fun w => { w with refs := w.refs + 1 }) (.tipped 0 true) := by
  have hsettle : ∀ t : State, t.delivery? n = some { d with
      queueMass := 0, estimated := true, state := .crushed, parts := d.parts ++ [⟨s.openNumber, 0⟩]
      nominalPart := true } → t.settleTest n = t := by
    intro t ht
    refine State.settleTest_of_not_ready fun x hx => State.readyToSettle_of_unnetted ?_
    obtain rfl := Option.some.inj (ht.symm.trans hx)
    exact hn
  simp only [decideTip, numberBad_ok h1 h2, hd, hs, hm, hn]
  rw [hsettle]
  · rfl
  · exact (State.modDelivery_delivery? _).trans (congrArg _ hd)

end

/-- Settles O24: `decideTip_queued`, `decideTip_full` and `decideTip_nominal`, with the mass that R17 gives. -/
theorem tipsFixTheQueueMass : Obligations.TipsFixTheQueueMass := by
  refine ⟨?_, ?_⟩
  · intro s tag n d x h h1 h2 hd hs hn hx
    have hmass : s.tipMass d = x.net := State.tipMass_netted hn
    refine ⟨fun hf => ?_, fun hf => exec_refused h (.tip n) (decideTip_full h1 h2 hd hs (by omega) hf) rfl⟩
    have hq := decideTip_queued h1 h2 hd hs (by omega) hf
    rw [hmass, hn] at hq
    exact exec_taken h (.tip n) hq rfl
  · intro s tag n d h h1 h2 hd hs hn tare cane e
    have hmass : s.tipMass d = e := State.tipMass_estimated hn
    refine ⟨fun he hf => ?_, fun he hf => exec_refused h (.tip n) (decideTip_full h1 h2 hd hs (by omega) hf) rfl,
      fun he => exec_taken h (.tip n) (decideTip_nominal h1 h2 hd hs hn (by omega)) rfl⟩
    have hq := decideTip_queued h1 h2 hd hs (by omega) hf
    rw [hmass, hn] at hq
    exact exec_taken h (.tip n) hq rfl

end Sys2Proof.Machine

/-! SUPPORT. VOID and NET FROM STORED, and the completion of a write beside which nothing else waits. -/
namespace Sys2Proof.Machine

open Sys2Proof

section

variable {s : State}

/-! ## A write that completes (R169, R174, R176) -/

/-- The record is held and exposed and its reservation consumed, while the port still holds the write (R176; log 29). -/
def State.recorded (s : State) (f : InFlight) : State :=
  { s with store := { s.store with
      slots := s.store.slots.put f.slot f.record, lastSequence := f.record.sequence, lastSlot := f.slot
      reserved := s.store.reserved - 1 } }

theorem State.completeWrite_eq {f : InFlight} (hs : s.store.state ≠ .failed) (hf : s.store.inFlight = some f) :
    let u := (s.recorded f).requesterComplete f.record.sequence f.request
    s.completeWrite = State.startNext { u with store := { u.store with inFlight := none } } := by
  unfold State.completeWrite
  rw [if_neg hs]
  split
  · next hnone => exact nomatch hf.symm.trans hnone
  · next f' hf' =>
    obtain rfl := Option.some.inj (hf.symm.trans hf')
    rfl

theorem Store.choose_empty {x : Store} (ht : x.tickets = ⟨none, none, none, none⟩) (hs : x.shared = []) :
    x.choose = none := by
  have hfind : (rotation x.lastTicket).find? (fun b => (x.tickets.get b).isSome) = none := by
    rw [List.find?_eq_none, ht]
    intro b _
    cases b <;> simp [Quad.get]
  simp only [Store.choose, hfind, hs, takeFirst]

/-- Where the requester's step asks for nothing more, the completion of a lone write leaves the port idle (R174). -/
theorem State.completeWrite_lone {f : InFlight} {u : State} (h : s.loneWrite f)
    (hu : (s.recorded f).requesterComplete f.record.sequence f.request = u) (hstore : u.store = (s.recorded f).store) :
    s.completeWrite = { u with store := s.store.completed f } := by
  obtain ⟨hs, hf, htickets, hshared, -⟩ := h
  have hdone : ({ u.store with inFlight := none } : Store) = s.store.completed f := by rw [hstore]; rfl
  rw [State.completeWrite_eq hs hf, hu, hdone]
  exact State.startNext_nothing (Store.choose_empty htickets hshared)

/-- A notice does not ask how the store stands. -/
theorem State.notify_withStore (x : Store) (body : NoticeBody) :
    ({ s with store := x } : State).notify body = { s.notify body with store := x } := by
  unfold State.notify
  dsimp only
  split
  · rfl
  · split
    · cases takeFirst (fun y : Notice => !y.body.isAlarm) s.link.notices <;> rfl
    · rfl

/-! ## Requests that ask for a delivery's record (R13, R19) -/

variable {n : Nat} {d : Delivery} (h1 : 1 ≤ n) (h2 : n ≤ 999999) (hd : s.delivery? n = some d)
  (hnames : ∀ b x, (s.bridge b).binding = some x → x.pass ≠ .tare n)

include h1 h2 hd hnames

theorem decideVoid_take (hs : d.state = .openGross) (hp : d.pendingNet = none) :
    decideVoid n s = .take ((s.modDelivery n fun x => { x with state := .voiding }).requestWrite (.delivery n)
      (.void (d.voidBody n))) .none := by
  simp [decideVoid, numberBad_ok h1 h2, hd, hs, hp, State.tareBridge_none hnames]

theorem decideNetFromStored_take {t : StoredTare} (hsettling : d.state ≠ .settling) (hvoiding : d.state ≠ .voiding)
    (hn : d.netting = none) (hp : d.pendingNet = none) (ht : s.storedTare d.vehicle = some t) (hkg : t.kg < d.gross.kg)
    (hstore : s.store.state ≠ .failed) (hfree : s.store.reserved + 1 ≤ s.free) :
    let p : PendingNetting :=
      { tare := t.kg, trash := trashOf d.gross.kg t.kg (s.permille d.inspection)
        net := netOf d.gross.kg t.kg (s.permille d.inspection), time := s.now }
    decideNetFromStored n s = .take (((s.reserve 1).modDelivery n fun x => { x with pendingNet := some p }).requestWrite
      (.delivery n) (.tare (d.storedTicket n p))) .none := by
  have hlow : ¬ d.gross.kg ≤ t.kg := Nat.not_le.mpr hkg
  simp [decideNetFromStored, numberBad_ok h1 h2, hd, hsettling, hvoiding, hn, hp, State.tareBridge_none hnames, ht, hlow,
    State.reservationRefusal_none 1 hstore hfree]

end

/-- Settles O25: the completion by `State.completeWrite_lone`, the requests by their decisions. -/
theorem voidsAndStoredNettingsAskForTheirRecords : Obligations.VoidsAndStoredNettingsAskForTheirRecords := by
  refine ⟨?_, ?_⟩
  · intro s f n x hl hreq
    have hvoid : (s.recorded f).requesterComplete f.record.sequence f.request =
        (s.recorded f).voidComplete f.record.sequence x := by
      simp only [State.requesterComplete, hreq]
    have hdone := State.completeWrite_lone hl hvoid (by simp [State.voidComplete])
    refine congrArg (fun t : State => Host.Outcome.next t.settleLink) (hdone.trans ?_)
    exact (State.notify_withStore _ _).symm
  · intro s tag n d h h1 h2 hd hp hnames
    refine ⟨fun hs => exec_taken h (.voidDelivery n) (decideVoid_take h1 h2 hd hnames hs hp) rfl, ?_⟩
    intro v t hsettling hvoiding hn hv ht hkg hstore hfree
    have htare : s.storedTare d.vehicle = some t := by simp only [State.storedTare, hv, ht]
    exact exec_taken h (.netFromStored n)
      (decideNetFromStored_take h1 h2 hd hnames hsettling hvoiding hn hp htare hkg hstore hfree) rfl

end Sys2Proof.Machine

/-! SUPPORT. The booking of a cane pulse at the head of the Feed Queue. -/
namespace Sys2Proof.Machine

open Sys2Proof

theorem Table.modify_modify {α : Type} (t : Table α) (n : Nat) (f g : α → α) :
    (t.modify n f).modify n g = t.modify n fun a => g (f a) := by
  simp only [Table.modify, List.map_map]
  refine List.map_congr_left fun p _ => ?_
  by_cases h : p.1 = n <;> simp [h]

/-! ## The three cases of a credit (R36) -/

theorem creditParts_last (older : List Part) (w kg p : Nat) :
    creditParts (older ++ [⟨w, kg⟩]) w p = (.last, older ++ [⟨w, kg + p⟩]) := by
  simp [creditParts]

theorem creditParts_appended {parts : List Part} {w : Nat} (p : Nat) (hlen : parts.length < 8)
    (hw : ∀ q, parts.getLast? = some q → q.window ≠ w) : creditParts parts w p = (.appended, parts ++ [⟨w, p⟩]) := by
  unfold creditParts
  split
  · next hnone => simp [List.getLast?_eq_none_iff.mp hnone]
  · next q hq =>
    rw [if_neg (hw q hq)]
    exact if_pos hlen

theorem creditParts_folded {older : List Part} {q : Part} {w : Nat} (p : Nat) (hlen : older.length = 7)
    (hw : q.window ≠ w) : creditParts (older ++ [q]) w p = (.folded, older ++ [⟨q.window, q.kg + p⟩]) := by
  simp [creditParts, hw, hlen, Config.partsCapacity]

section

variable {s : State}

/-! ## After the booking (R50, R55) -/

/-- Where no stroke is due and the OPEN window is not EXTENDED, the work that follows a booking is the target test. -/
theorem State.targetTest_of_booked {w : Window} (hp : s.windows.pacing < s.spacing)
    (hw : s.window? s.openNumber = some w) (hx : w.extended = false) :
    s.samplerTest.targetTest =
      if s.shift.working.target ≤ w.cane then s.triggerClose s.shift.number else s := by
  rw [State.samplerTest_quiet (.inl hp)]
  have hopen : s.openExtended = false := by simp only [State.openExtended, hw, hx]
  simp only [State.targetTest, hopen, hw]
  rfl

/-! ## The debits (R35) -/

/-- The pulse's cane counted to the window and to the shift, before it is booked (R34). -/
def State.caned (s : State) (kg : Nat) : State :=
  (s.modWindow s.openNumber fun v => { v with cane := add32 v.cane kg }).tally fun a => { a with cane := a.cane.plus kg }

/-- A pulse by what its debits leave: the leftover is orphan cane, the pacing cane rises, and the tests follow. -/
theorem State.canePulse_of_debits {kg left : Nat} {u : State}
    (h : State.debits s.openNumber (s.caned kg).feed kg (s.caned kg) = (left, u)) :
    let v := u.orphan s.openNumber left
    s.canePulse kg =
      State.targetTest (State.samplerTest
        { v with windows := { v.windows with pacing := add32 v.windows.pacing kg } }) := by
  have hfold : s.canePulse kg = State.targetTest (State.samplerTest
      (let r := State.debits s.openNumber (s.caned kg).feed kg (s.caned kg)
       let v := State.orphan r.2 s.openNumber r.1
       { v with windows := { v.windows with pacing := add32 v.windows.pacing kg } })) := rfl
  rw [hfold, h]

theorem State.debits_zero (w : Nat) (ns : List Nat) (s : State) : State.debits w ns 0 s = (0, s) := by
  cases ns <;> rfl

theorem State.debits_whole {w n kg : Nat} {rest : List Nat} {d : Delivery} (hkg : 0 < kg) (hd : s.delivery? n = some d)
    (hlt : kg < d.queueMass - d.crushed) : State.debits w (n :: rest) kg s = (0, s.debit n d w kg) := by
  rw [State.debits, if_neg (by omega)]
  simp only [hd]
  rw [if_pos hlt]

theorem State.debits_finish {w n kg : Nat} {rest : List Nat} {d : Delivery} (hkg : 0 < kg) (hd : s.delivery? n = some d)
    (hle : d.queueMass - d.crushed ≤ kg) : State.debits w (n :: rest) kg s =
      State.debits w rest (kg - (d.queueMass - d.crushed))
        (State.settleTest ((s.debit n d w (d.queueMass - d.crushed)).leaveFeed n) n) := by
  rw [State.debits, if_neg (by omega)]
  simp only [hd]
  rw [if_neg (by omega)]

theorem State.feed_filter_head {n : Nat} {rest : List Nat} (h : n ∉ rest) :
    (n :: rest).filter (fun m => decide (m ≠ n)) = rest := by
  rw [List.filter_cons_of_neg (by simp), List.filter_eq_self]
  intro m hm
  simpa using ne_of_mem_of_not_mem hm h

/-- What a booking makes of the state: the delivery changed, the OPEN window's record replaced, the pacing cane raised
and the shift's sums as given. -/
def State.booked (s : State) (n : Nat) (f : Delivery → Delivery) (v : Window) (kg : Nat) (acc : Accumulators) : State :=
  { s with
      dt := { s.dt with records := s.dt.records.modify n f }
      windows := { s.windows with
        records := s.windows.records.modify s.windows.counter fun _ => v
        pacing := s.windows.pacing + kg }
      shift := { s.shift with acc := acc } }

theorem State.booked_delivery? (n : Nat) (f : Delivery → Delivery) (v : Window) (kg : Nat) (acc : Accumulators) :
    (s.booked n f v kg acc).delivery? n = (s.delivery? n).map f := Table.find_modify_self _ _ _

theorem State.booked_window? {w : Window} (hw : s.window? s.windows.counter = some w) (n : Nat) (f : Delivery → Delivery)
    (v : Window) (kg : Nat) (acc : Accumulators) : (s.booked n f v kg acc).window? s.windows.counter = some v :=
  (Table.find_modify_self _ _ _).trans (congrArg (Option.map fun _ => v) hw)

/-- The target test that follows a booking (R50). -/
theorem State.targetTest_booked {n kg : Nat} {f : Delivery → Delivery} {w v : Window} {acc : Accumulators}
    (hw : s.window? s.windows.counter = some w) (hx : v.extended = false)
    (hp : s.windows.pacing + kg < s.shift.working.target / s.shift.working.strokes) :
    (s.booked n f v kg acc).samplerTest.targetTest =
      if s.shift.working.target ≤ v.cane then (s.booked n f v kg acc).triggerClose s.shift.number
      else s.booked n f v kg acc :=
  State.targetTest_of_booked hp (State.booked_window? hw n f v kg acc) hx

/-- The window's two changes in a canonical table, by their result. -/
theorem State.caned_credited {w : Window} (hwf : s.windows.records.wf) (hw : s.window? s.windows.counter = some w)
    {kg m : Nat} (hcane : fits32 (w.cane + kg)) (c : CreditCase) :
    ((s.windows.records.modify s.windows.counter fun v => { v with cane := add32 v.cane kg }).modify s.windows.counter
        fun v => v.credited m c) =
      s.windows.records.modify s.windows.counter fun _ => { w with cane := w.cane + kg }.credited m c := by
  rw [Table.modify_modify, Table.modify_const hwf hw, add32_fits hcane]

/-- A pulse below the head's remainder is debited whole, and nothing is left over (R35). -/
theorem State.canePulse_whole {n kg : Nat} {rest : List Nat} {d : Delivery} {w v : Window} {c : CreditCase}
    {parts : List Part} (hwf : s.windows.records.wf) (hfeed : s.feed = n :: rest) (hd : s.delivery? n = some d)
    (hlt : d.crushed + kg < d.queueMass) (hkg : 0 < kg) (hw : s.window? s.windows.counter = some w)
    (hx : w.extended = false) (hcane : fits32 (w.cane + kg)) (hpacing : fits32 (s.windows.pacing + kg))
    (hquiet : s.windows.pacing + kg < s.shift.working.target / s.shift.working.strokes)
    (hcredit : creditParts d.parts s.windows.counter kg = (c, parts))
    (hv : { w with cane := w.cane + kg }.credited kg c = v) :
    let b := s.booked n (fun d => { d with
      crushed := d.crushed + kg, parts := parts, folded := d.folded || c == .folded }) v kg
      { s.shift.acc with cane := s.shift.acc.cane.plus kg }
    s.canePulse kg = if s.shift.working.target ≤ w.cane + kg then b.triggerClose s.shift.number else b := by
  intro b
  have hdebits : State.debits s.openNumber (s.caned kg).feed kg (s.caned kg) =
      (0, (s.caned kg).debit n d s.openNumber kg) := by
    rw [show (s.caned kg).feed = n :: rest from hfeed]
    exact State.debits_whole hkg hd (by omega)
  have hvx : v.extended = false ∧ v.cane = w.cane + kg := by
    subst hv
    cases c <;> exact ⟨hx, rfl⟩
  have hwindows := State.caned_credited (m := kg) hwf hw hcane c
  rw [hv] at hwindows
  rw [State.canePulse_of_debits hdebits, ← hvx.2, ← State.targetTest_booked hw hvx.1 hquiet]
  congr 2
  simp only [State.orphan, if_true, State.debit, State.caned, State.openNumber, State.modDelivery, State.modWindow,
    State.tally, hcredit, hwindows, add32_fits hpacing, State.booked]

/-- A window that is OPEN settles no delivery that names it (R21). -/
theorem State.partSettled_of_open {p : Part} {w : Window} (hw : s.window? p.window = some w) (ho : w.state = .opened) :
    s.partSettled p = false := by
  simp [State.partSettled, hw, Window.settled, ho]

/-- The leftover of a pulse over what it finds in the Feed Queue (R35, R37): nothing, or an empty queue. -/
theorem State.debits_leftover {w kg : Nat} {rest : List Nat} (h : kg = 0 ∨ rest = []) (s : State) :
    State.debits w rest kg s = (kg, s) := by
  rcases h with rfl | rfl
  · exact State.debits_zero w rest s
  · rfl

/-- The head finished by its remainder, in a canonical table: out of the queue and CRUSHED (R35, R36). -/
theorem State.debit_leaveFeed_eq {n kg rem : Nat} {rest : List Nat} {d : Delivery} {w : Window} {parts : List Part}
    (hwf : s.windows.records.wf) (hfeed : s.feed = n :: rest) (hrest : n ∉ rest)
    (hw : s.window? s.windows.counter = some w) (hcane : fits32 (w.cane + kg))
    (hattributed : fits32 (w.attributed + rem))
    (hcredit : creditParts d.parts s.windows.counter rem = (.last, parts)) :
    ((s.caned kg).debit n d s.openNumber rem).leaveFeed n =
      State.booked { s with feed := rest } n
        (fun d => { d with crushed := d.crushed + rem, parts := parts, state := .crushed })
        { w with cane := w.cane + kg, attributed := w.attributed + rem } 0
        { s.shift.acc with cane := s.shift.acc.cane.plus kg } := by
  have hdeliveries : ((s.dt.records.modify n fun d => { d with
      crushed := d.crushed + rem, parts := parts, folded := d.folded || CreditCase.last == .folded }).modify n fun d =>
        { d with state := .crushed }) =
      s.dt.records.modify n fun d => { d with crushed := d.crushed + rem, parts := parts, state := .crushed } := by
    simp only [Table.modify_modify, show (CreditCase.last == .folded) = false from rfl, Bool.or_false]
  have hcredited : ({ w with cane := w.cane + kg } : Window).credited rem .last =
      { w with cane := w.cane + kg, attributed := w.attributed + rem } := by
    simp only [Window.credited, add32_fits hattributed]
  have hwindows := State.caned_credited (m := rem) hwf hw hcane .last
  rw [hcredited] at hwindows
  have hqueue : s.feed.filter (fun m => decide (m ≠ n)) = rest := hfeed ▸ State.feed_filter_head hrest
  simp only [State.leaveFeed, State.debit, State.caned, State.openNumber, State.modDelivery, State.modWindow,
    State.tally, hcredit, hwindows, hqueue, hdeliveries, State.booked, Nat.add_zero]

/-- The rise of the pacing cane by a pulse, after its booking (R55). -/
def State.paced (s : State) (kg : Nat) : State :=
  { s with windows := { s.windows with pacing := add32 s.windows.pacing kg } }

/-- The leftover of a booked pulse, and the pacing cane (R37, R55). -/
theorem State.paced_orphan_booked {n kg spill : Nat} {f : Delivery → Delivery} {v : Window} {acc : Accumulators}
    (horphan : fits32 (v.orphan + spill)) (hpacing : fits32 (s.windows.pacing + kg)) :
    let b := s.booked n f { v with orphan := v.orphan + spill } kg
      { acc with orphan := if 0 < spill then acc.orphan.plus spill else acc.orphan }
    ((s.booked n f v 0 acc).orphan s.windows.counter spill).paced kg = if 0 < spill then b.raise .orphanCane else b := by
  intro b
  rcases Nat.eq_zero_or_pos spill with rfl | hpos
  · simp only [State.orphan, State.paced, State.booked, if_true, Nat.add_zero, add32_fits hpacing, Nat.lt_irrefl,
      if_false, b]
  · have hwindows : ((s.windows.records.modify s.windows.counter fun _ => v).modify s.windows.counter
        fun v => { v with orphan := add32 v.orphan spill }) =
        s.windows.records.modify s.windows.counter fun _ => { v with orphan := v.orphan + spill } := by
      rw [Table.modify_modify, add32_fits horphan]
    simp only [State.orphan, Nat.pos_iff_ne_zero.mp hpos, if_false, hpos, if_true, State.paced, State.booked,
      State.modWindow, State.tally, State.raise, State.setFlags, hwindows, add32_fits hpacing, Nat.add_zero, b]

/-- A pulse that the head's remainder does not exceed finishes the head: it takes its remainder, leaves the queue and is
CRUSHED, and what is left over is orphan cane (R35, R37). -/
theorem State.canePulse_finish {n kg last : Nat} {rest : List Nat} {d : Delivery} {w : Window} {older : List Part}
    (hwf : s.windows.records.wf) (hfeed : s.feed = n :: rest) (hrest : n ∉ rest) (hd : s.delivery? n = some d)
    (hparts : d.parts = older ++ [⟨s.windows.counter, last⟩]) (hle : d.queueMass - d.crushed ≤ kg) (hkg : 0 < kg)
    (hw : s.window? s.windows.counter = some w) (hopen : w.state = .opened) (hx : w.extended = false)
    (hspill : kg - (d.queueMass - d.crushed) = 0 ∨ rest = []) (hcane : fits32 (w.cane + kg))
    (hattributed : fits32 (w.attributed + (d.queueMass - d.crushed)))
    (horphan : fits32 (w.orphan + (kg - (d.queueMass - d.crushed)))) (hpacing : fits32 (s.windows.pacing + kg))
    (hquiet : s.windows.pacing + kg < s.shift.working.target / s.shift.working.strokes) :
    let rem := d.queueMass - d.crushed
    let spill := kg - rem
    let b := State.booked { s with feed := rest } n
      (fun d => { d with
        crushed := d.crushed + rem, parts := older ++ [⟨s.windows.counter, last + rem⟩], state := .crushed })
      { w with cane := w.cane + kg, attributed := w.attributed + rem, orphan := w.orphan + spill } kg
      { s.shift.acc with
        cane := s.shift.acc.cane.plus kg
        orphan := if 0 < spill then s.shift.acc.orphan.plus spill else s.shift.acc.orphan }
    let u := if 0 < spill then b.raise .orphanCane else b
    s.canePulse kg = if s.shift.working.target ≤ w.cane + kg then u.triggerClose s.shift.number else u := by
  intro rem spill b u
  have hcredit : creditParts d.parts s.windows.counter rem = (.last, older ++ [⟨s.windows.counter, last + rem⟩]) :=
    hparts ▸ creditParts_last older _ last rem
  have hfinished := State.debit_leaveFeed_eq hwf hfeed hrest hw hcane hattributed hcredit
  have hsettle : (((s.caned kg).debit n d s.openNumber rem).leaveFeed n).settleTest n =
      ((s.caned kg).debit n d s.openNumber rem).leaveFeed n := by
    rw [hfinished]
    refine State.settleTest_of_not_ready fun y hy => ?_
    rw [State.booked_delivery?, show State.delivery? { s with feed := rest } n = some d from hd] at hy
    obtain rfl := Option.some.inj hy
    refine State.readyToSettle_of_part (p := ⟨s.windows.counter, last + rem⟩) (by simp) ?_
    exact State.partSettled_of_open (State.booked_window? (s := { s with feed := rest }) hw _ _ _ _ _) hopen
  have hdebits : State.debits s.openNumber (s.caned kg).feed kg (s.caned kg) =
      (spill, ((s.caned kg).debit n d s.openNumber rem).leaveFeed n) := by
    rw [show (s.caned kg).feed = n :: rest from hfeed, State.debits_finish (s := s.caned kg) hkg hd hle, hsettle]
    exact State.debits_leftover hspill _
  have hbooked : ((((s.caned kg).debit n d s.openNumber rem).leaveFeed n).orphan s.openNumber spill).paced kg = u := by
    rw [hfinished]
    exact State.paced_orphan_booked (s := { s with feed := rest })
      (v := { w with cane := w.cane + kg, attributed := w.attributed + rem }) horphan hpacing
  have hu : u.windows = b.windows ∧ u.shift = b.shift := by
    by_cases h : 0 < spill <;> simp [u, h]
  obtain ⟨huw, hus⟩ := hu
  have hv : u.window? u.windows.counter = some
      { w with cane := w.cane + kg, attributed := w.attributed + rem, orphan := w.orphan + spill } := by
    rw [State.window?, huw]
    exact (Table.find_modify_self _ _ _).trans (congrArg (Option.map fun _ => _) hw)
  have htest := State.targetTest_of_booked (s := u) (by rw [huw, State.spacing, hus]; exact hquiet) hv hx
  rw [hus] at htest
  calc s.canePulse kg = _ := State.canePulse_of_debits hdebits
    _ = u.samplerTest.targetTest := congrArg (fun t => (State.samplerTest t).targetTest) hbooked
    _ = _ := htest

/-! ## The edge on CP (R144, R145) -/

theorem exec_cane_edge (h : s.edgeDue .cp) :
    exec (.inputHoldExpiry .cp) s = .next (State.settleLink ((s.levelTaken .cp).canePulse s.lines.cpMass)) := by
  have hpulse : s.holdExpired .cp = (s.levelTaken .cp).canePulse s.lines.cpMass := State.holdExpired_edge h
  rw [← hpulse]
  rfl

end

/-- Settles O31: `State.canePulse_whole` for the three cases of a credit, `State.canePulse_finish` for a pulse that
finishes the head. -/
theorem canePulsesDebitTheHeadDelivery : Obligations.CanePulsesDebitTheHeadDelivery := by
  refine ⟨?_, ?_⟩
  · intro s n rest d w hcanon hedge hfeed hd hlt hkg hw hx hcane hattributed hfolded hpacing hquiet p t tested booked
    obtain ⟨-, -, hwf, -, -⟩ := hcanon
    have whole {c : CreditCase} {parts : List Part} {v : Window}
        (hcredit : creditParts d.parts s.windows.counter p = (c, parts))
        (hv : { w with cane := w.cane + p }.credited p c = { v with cane := w.cane + p }) :
        exec (.inputHoldExpiry .cp) s = booked parts (c == .folded) v := by
      rw [exec_cane_edge hedge]
      have hpulse := State.canePulse_whole (s := t) (kg := p) hwf hfeed hd hlt hkg hw hx hcane hpacing hquiet hcredit hv
      exact congrArg (fun u : State => Host.Outcome.next u.settleLink) hpulse
    have hsum : add32 w.attributed p = w.attributed + p := add32_fits hattributed
    have hfold : add32 w.folded p = w.folded + p := add32_fits hfolded
    refine ⟨fun older kg hparts => ?_, fun hlen hlast => ?_, fun older q hparts hlen hq => ?_⟩
    · exact whole (v := { w with attributed := w.attributed + p }) (c := .last)
        (hparts ▸ creditParts_last older _ kg p) (by rw [Window.credited, hsum])
    · exact whole (v := { w with attributed := w.attributed + p, refs := w.refs + 1 }) (c := .appended)
        (creditParts_appended p hlen hlast) (by rw [Window.credited, hsum])
    · exact whole (v := { w with folded := w.folded + p }) (c := .folded)
        (hparts ▸ creditParts_folded p hlen hq) (by rw [Window.credited, hfold])
  · intro s n rest d w older kg hcanon hedge hfeed hrest hd hparts hle hkg hw hopen hx p rem spill hspill hcane
      hattributed horphan hpacing hquiet t tested booked
    obtain ⟨-, -, hwf, -, -⟩ := hcanon
    rw [exec_cane_edge hedge]
    have hpulse := State.canePulse_finish (s := t) (kg := p) hwf hfeed hrest hd hparts hle hkg hw hopen hx hspill hcane
      hattributed horphan hpacing hquiet
    exact congrArg (fun u : State => Host.Outcome.next u.settleLink) hpulse

end Sys2Proof.Machine

/-! SUPPORT. The end of CAPTURE at a ticket's completion, and the netting of a delivery. -/
namespace Sys2Proof.Machine

open Sys2Proof

theorem Table.modify_of_missing {α : Type} {t : Table α} {n : Nat} (h : t.find n = none) (f : α → α) :
    t.modify n f = t := by
  induction t with
  | nil => rfl
  | cons p t ih =>
    obtain ⟨k, b⟩ := p
    have hk : k ≠ n := fun hk => by simp [Table.find, hk] at h
    have ht : Table.find t n = none := by simpa [Table.find, hk] using h
    exact congrArg₂ List.cons (if_neg hk) (ih ht)

section

variable {s : State}

/-! ## A bridge leaves CAPTURE (R102) -/

theorem State.notify_only (body : NoticeBody) :
    s.notify body = { s with lines := (s.notify body).lines, link := (s.notify body).link } := by
  unfold State.notify
  dsimp only
  split
  · rfl
  · split
    · split <;> rfl
    · rfl

@[simp] theorem State.notify_link_input (body : NoticeBody) : (s.notify body).link.input = s.link.input := by
  unfold State.notify
  dsimp only
  split
  · rfl
  · split
    · split <;> rfl
    · rfl

/-- A bridge with no pending cause after CAPTURE: CLEARING while a vehicle stands, else IDLE (R94, R102). -/
def Bridge.leftCapture (x : Bridge) : Bridge :=
  if x.present then { x with state := .clearing }
  else { x with state := .idle, lockCause := none, pendingCause := none, entry := none }

theorem State.leaveCapture_locked {b : BridgeNo} {cause : LockCause} (h : (s.bridge b).pendingCause = some cause) :
    s.leaveCapture b = s.enterLocked b cause none := by
  simp only [State.leaveCapture, h]

theorem State.leaveCapture_free {b : BridgeNo} (h : (s.bridge b).pendingCause = none)
    (hheld : ∀ p, (s.channel b).pending = some p → p.held = false) :
    let t := s.leaveCapture b
    t = { s with bridges := t.bridges, lines := t.lines } ∧ t.bridge b = (s.bridge b).leftCapture := by
  intro t
  let u := s.modBridge b fun x => { x with state := .clearing }
  have hub : u.bridge b = { s.bridge b with state := .clearing } := s.modBridge_bridge b _
  have ht : t = if (u.bridge b).present then u else u.goIdle b := by
    simp only [t, State.leaveCapture, h]
    rfl
  cases hp : (s.bridge b).present with
  | true =>
    have ht' : t = u := ht.trans (if_pos (by rw [hub, hp]))
    rw [ht', hub, Bridge.leftCapture, if_pos hp]
    exact ⟨rfl, rfl⟩
  | false =>
    have ht' : t = u.modBridge b _ := (ht.trans (if_neg (by rw [hub, hp]; decide))).trans (State.goIdle_plain hheld)
    rw [ht', State.modBridge_bridge, hub, Bridge.leftCapture, if_neg (by simp [hp])]
    exact ⟨rfl, by simp [hp]⟩

theorem State.enterLocked_only (b : BridgeNo) (cause : LockCause) (x : Option Binding) :
    let t := s.enterLocked b cause x
    t = { s with bridges := t.bridges, lines := t.lines, link := t.link } := by
  rw [State.enterLocked, State.raise, State.setFlags, State.notify_only]
  rfl

theorem State.leaveCapture_only {b : BridgeNo} (hheld : ∀ p, (s.channel b).pending = some p → p.held = false) :
    let t := s.leaveCapture b
    t = { s with bridges := t.bridges, lines := t.lines, link := t.link } ∧ t.link.input = s.link.input := by
  cases h : (s.bridge b).pendingCause with
  | none =>
    obtain ⟨ht, -⟩ := State.leaveCapture_free h hheld
    rw [ht]
    exact ⟨rfl, rfl⟩
  | some cause =>
    rw [State.leaveCapture_locked h]
    exact ⟨State.enterLocked_only b cause none, by simp [State.enterLocked]⟩

/-! ## The completion of a bridge's ticket (R102, R176) -/

/-- What a ticket's completion leaves, where `v` is what the Delivery Table makes of the state and `body` its notice. -/
structure State.TicketTaken (s v : State) (f : InFlight) (b : BridgeNo) (body : NoticeBody) (t : State) : Prop where
  store : t.store = s.store.completed f
  unbound : (t.bridge b).binding = none ∧ (t.bridge b).bindTimer = none
  free : (s.bridge b).pendingCause = none → (t.bridge b).state = if (s.bridge b).present then .clearing else .idle
  locked : ∀ cause, (s.bridge b).pendingCause = some cause →
    (t.bridge b).state = .locked ∧ (t.bridge b).lockCause = some cause
  toldFree : (s.bridge b).pendingCause = none → t.endsLink (s.notify body).link
  toldLocked : ∀ cause, (s.bridge b).pendingCause = some cause →
    t.endsLink (((s.notify body).notify (.bridgeLocked b cause none)).raise .bridgeLocked).link
  tables : t.dt = v.dt ∧ t.vehicles = v.vehicles ∧ t.feed = v.feed ∧ t.windows = v.windows ∧ t.growers = v.growers ∧
    t.shift = v.shift
  units : t.channels = v.channels ∧ t.clock = v.clock ∧ t.pending = v.pending

/-- A bridge gives up its binding when its ticket completes (R102). -/
def State.unbound (s : State) (b : BridgeNo) : State :=
  s.modBridge b fun x => { x with binding := none, bindTimer := none }

theorem exec_ticketDone {f : InFlight} {b : BridgeNo} {complete : State → State} {v : State} {body : NoticeBody}
    (hinput : s.link.input = []) (hlone : s.loneWrite f)
    (hreq : (s.recorded f).requesterComplete f.record.sequence f.request = (s.recorded f).ticketDone b complete)
    (hcomplete : complete ((s.recorded f).unbound b) = v.notify body) (hstore : v.store = (s.recorded f).store)
    (hbridges : v.bridges = (s.unbound b).bridges) (hchannels : v.channels = s.channels) (hlink : v.link = s.link)
    (hheld : ∀ p, (s.channel b).pending = some p → p.held = false) :
    ∃ t, exec .writeComplete s = .next t ∧ s.TicketTaken v f b body t := by
  let u := v.notify body
  let w : State := { u.leaveCapture b with store := s.store.completed f }
  have hb : u.bridge b = { s.bridge b with binding := none, bindTimer := none } := by
    rw [State.bridge, State.notify_bridges, hbridges]
    exact s.modBridge_bridge b _
  have hul : u.link = (s.notify body).link := State.notify_link_congr hlink body
  have huheld : ∀ p, (u.channel b).pending = some p → p.held = false := by
    rw [State.channel, State.notify_channels, hchannels]
    exact hheld
  obtain ⟨honly, hin⟩ := State.leaveCapture_only huheld
  have hdone : s.completeWrite = w :=
    State.completeWrite_lone hlone (hreq.trans (congrArg (State.leaveCapture · b) hcomplete)) (by
      rw [honly]
      exact (v.notify_store body).trans hstore)
  have hempty : w.link.input = [] := by
    rw [show w.link.input = u.link.input from hin, hul, State.notify_link_input, hinput]
  let t := w.settleLink
  have ht : t = w.pump := w.settleLink_of_empty hempty
  have htb : t.bridge b = (u.leaveCapture b).bridge b := by rw [ht, State.bridge, State.pump_bridges]; rfl
  have hfree (hp : (s.bridge b).pendingCause = none) :
      t.bridge b = (u.bridge b).leftCapture ∧ t.endsLink (s.notify body).link := by
    obtain ⟨hw, hbridge⟩ := State.leaveCapture_free (s := u) (b := b) (by rw [hb, hp]) huheld
    refine ⟨htb.trans hbridge, w, rfl, ?_⟩
    show (u.leaveCapture b).link = _
    rw [hw, ← hul]
  have hlocked (cause : LockCause) (hp : (s.bridge b).pendingCause = some cause) :
      t.bridge b = (u.bridge b).takeState (some cause) ∧
        t.endsLink (((s.notify body).notify (.bridgeLocked b cause none)).raise .bridgeLocked).link := by
    have hw : u.leaveCapture b = u.enterLocked b cause none := State.leaveCapture_locked (by rw [hb, hp])
    refine ⟨by rw [htb, hw, State.enterLocked_bridge], w, rfl, ?_⟩
    show (u.leaveCapture b).link = _
    rw [hw, State.enterLocked]
    refine State.raise_link_congr (State.notify_link_congr ?_ _) _
    exact hul
  refine ⟨t, congrArg (fun t : State => Host.Outcome.next t.settleLink) hdone, ?_⟩
  exact {
    store := by rw [ht, State.pump_store]
    unbound := by
      cases hp : (s.bridge b).pendingCause with
      | none => rw [(hfree hp).1, hb, Bridge.leftCapture]; split <;> exact ⟨rfl, rfl⟩
      | some cause => rw [(hlocked cause hp).1, hb]; exact ⟨rfl, rfl⟩
    free := fun hp => by rw [(hfree hp).1, hb, Bridge.leftCapture]; split <;> rfl
    locked := fun cause hp => by rw [(hlocked cause hp).1, hb]; exact ⟨rfl, rfl⟩
    toldFree := fun hp => (hfree hp).2
    toldLocked := fun cause hp => (hlocked cause hp).2
    tables := by
      simp only [ht, State.pump_dt, State.pump_vehicles, State.pump_feed, State.pump_windows, State.pump_growers,
        State.pump_shift, w]
      rw [honly]
      simp [u]
    units := by
      simp only [ht, State.pump_channels, State.pump_clock, State.pump_pending, w]
      rw [honly]
      simp [u] }

/-- A completion outside CAPTURE that makes one notice and asks for nothing more. -/
theorem exec_completed {f : InFlight} {v : State} {body : NoticeBody} (hinput : s.link.input = [])
    (hlone : s.loneWrite f)
    (hcomplete : (s.recorded f).requesterComplete f.record.sequence f.request = v.notify body)
    (hstore : v.store = (s.recorded f).store) (hlink : v.link = s.link) :
    ∃ t, exec .writeComplete s = .next t ∧ t.endsLink (s.notify body).link ∧
      t = { v with store := s.store.completed f, lines := t.lines, link := t.link } := by
  let w : State := { v.notify body with store := s.store.completed f }
  have hdone : s.completeWrite = w := State.completeWrite_lone hlone hcomplete ((v.notify_store body).trans hstore)
  have hlinkw : w.link = (s.notify body).link := State.notify_link_congr hlink body
  have hempty : w.link.input = [] := by rw [hlinkw, State.notify_link_input, hinput]
  refine ⟨w.settleLink, congrArg (fun t : State => Host.Outcome.next t.settleLink) hdone, ⟨w, rfl, hlinkw⟩, ?_⟩
  rw [w.settleLink_of_empty hempty, State.pump_only]
  simp only [w]
  rw [State.notify_only]

/-! ## The netting of a delivery (R15, R39) -/

/-- A delivery netted by a netting, by its state. -/
def Delivery.netted (d : Delivery) (x : Netting) : Delivery :=
  let y := { d with netting := some x, tareRejected := false }
  let z := { y with overcrush := some (d.crushed - x.net) }
  match d.state with
  | .queued =>
    if d.crushed < x.net then { y with queueMass := x.net } else { z with queueMass := x.net, state := .crushed }
  | .crushed => if d.crushed < x.net then y else z
  | .openGross | .settling | .voiding => y

theorem Delivery.netted_parts (d : Delivery) (x : Netting) : (d.netted x).parts = d.parts := by
  unfold Delivery.netted
  dsimp only
  split
  · split <;> rfl
  · split <;> rfl
  all_goals rfl

theorem Delivery.netted_openGross {d : Delivery} (h : d.state = .openGross) (x : Netting) :
    d.netted x = { d with netting := some x, tareRejected := false } := by
  simp only [Delivery.netted, h]

theorem State.leaveFeed_delivery? (s : State) (n : Nat) :
    (s.leaveFeed n).delivery? n = (s.delivery? n).map fun d => { d with state := .crushed } :=
  State.modDelivery_delivery? (s := { s with feed := s.feed.filter fun m => m ≠ n }) _

theorem State.leaveFeed_delivery?_ne {m n : Nat} (h : m ≠ n) : (s.leaveFeed n).delivery? m = s.delivery? m :=
  State.modDelivery_delivery?_ne (s := { s with feed := s.feed.filter fun m => m ≠ n }) _ h

theorem State.leaveFeed_feed (s : State) (n : Nat) : (s.leaveFeed n).feed = s.feed.filter fun m => m ≠ n := rfl

variable {n : Nat} {d : Delivery} (hd : s.delivery? n = some d) (x : Netting)

include hd

/-- A netting changes its delivery as `Delivery.netted` says, and the Feed Queue where it ends a QUEUED one's crushing. -/
theorem State.net_effect :
    (s.net n x).delivery? n = some (d.netted x) ∧
      (s.net n x).feed = (if d.state = .queued ∧ x.net ≤ d.crushed then s.feed.filter fun m => m ≠ n else s.feed) ∧
      ∀ m, m ≠ n → (s.net n x).delivery? m = s.delivery? m := by
  have hother (u : State) {m : Nat} (hm : m ≠ n) (f : Delivery → Delivery) :
      (u.modDelivery n f).delivery? m = u.delivery? m := State.modDelivery_delivery?_ne f hm
  simp only [State.net, State.modDelivery_delivery?, hd, Option.map_some]
  cases hs : d.state with
  | queued =>
    by_cases hlt : d.crushed < x.net
    · simp +contextual [hlt, hs, hd, Delivery.netted, hother]
    · simp +contextual [hlt, hs, hd, Delivery.netted, State.leaveFeed_delivery?, State.leaveFeed_delivery?_ne,
        State.leaveFeed_feed, hother]
  | crushed => by_cases hlt : d.crushed < x.net <;> simp +contextual [hlt, hs, hd, Delivery.netted, hother]
  | openGross | settling | voiding => simp +contextual [hs, hd, Delivery.netted, hother]

theorem State.net_only : s.net n x = { s with dt := (s.net n x).dt, feed := (s.net n x).feed } := by
  simp only [State.net, State.modDelivery_delivery?, hd, Option.map_some]
  cases d.state with
  | queued => dsimp only; split <;> rfl
  | crushed => dsimp only; split <;> rfl
  | openGross | settling | voiding => rfl

/-- No netting settles a delivery that names a window not settled yet, or that is OPEN_GROSS (R21). -/
theorem State.settleTest_net
    (h : (∃ p ∈ d.parts, ∀ w, s.window? p.window = some w → w.settled = false) ∨ d.state = .openGross) :
    (s.net n x).settleTest n = s.net n x := by
  refine State.settleTest_of_not_ready fun c hc => ?_
  obtain rfl := Option.some.inj ((State.net_effect hd x).1.symm.trans hc)
  rcases h with ⟨p, hp, hopen⟩ | hs
  · refine State.readyToSettle_of_part (p := p) (by rwa [Delivery.netted_parts]) ?_
    rw [State.partSettled, State.net_only hd x]
    show State.partSettled s p = false
    rw [State.partSettled]
    split
    · next w hw => exact hopen w hw
    · rfl
  · refine State.readyToSettle_of_state ?_
    rw [Delivery.netted_openGross hs]
    simp [hs]

end

/-- Settles O51, by `exec_ticketDone`. -/
theorem grossTicketsCreateDeliveries : Obligations.GrossTicketsCreateDeliveries := by
  intro s f b k hinput hs hf hreq htickets hshared hwaiting hheld
  let u := (s.recorded f).unbound b
  let v : State := { u with dt := { u.dt with
    records := u.dt.records.put k.delivery (k.record f.record.sequence), reserved := u.dt.reserved - 1 } }
  obtain ⟨t, hexec, ht⟩ := exec_ticketDone (v := v) (complete := fun s => s.grossComplete f.record.sequence k) hinput
    ⟨hs, hf, htickets, hshared, hwaiting⟩ (by simp only [State.requesterComplete, hreq]) rfl rfl rfl rfl rfl hheld
  have hstore := ht.store
  obtain ⟨hbinding, htimer⟩ := ht.unbound
  obtain ⟨hdt, hvehicles, hfeed, hwindows, hgrowers, hshift⟩ := ht.tables
  obtain ⟨hchannels, hclock, hpending⟩ := ht.units
  refine ⟨t, hexec, ?_, ?_, ?_, ?_, ?_, ?_, hdt, hbinding, htimer, ht.free, ht.locked, ⟨ht.toldFree, ht.toldLocked⟩,
    hvehicles, hfeed, hwindows, hgrowers, hshift, hchannels, hclock, hpending⟩
  all_goals rw [hstore]; rfl

/-- What netting leaves of a delivery and of the Feed Queue, by the delivery's state (R15, R39). -/
theorem State.net_byState {s t : State} {n : Nat} {d : Delivery} (hd : s.delivery? n = some d) (x : Netting)
    (hdelivery : t.delivery? n = some (d.netted x)) (hfeed : t.feed = (s.net n x).feed) :
    let y := { d with netting := some x, tareRejected := false }
    (d.state = .openGross → t.delivery? n = some y ∧ t.feed = s.feed) ∧
    (d.state = .queued → d.crushed < x.net → t.delivery? n = some { y with queueMass := x.net } ∧ t.feed = s.feed) ∧
    (d.state = .queued → x.net ≤ d.crushed →
      t.delivery? n = some { y with queueMass := x.net, overcrush := some (d.crushed - x.net), state := .crushed } ∧
      t.feed = s.feed.filter fun m => m ≠ n) ∧
    (d.state = .crushed → d.crushed < x.net → t.delivery? n = some y ∧ t.feed = s.feed) ∧
    (d.state = .crushed → x.net ≤ d.crushed →
      t.delivery? n = some { y with overcrush := some (d.crushed - x.net) } ∧ t.feed = s.feed) := by
  rw [hdelivery, hfeed, (State.net_effect hd x).2.1]
  refine ⟨fun hs => ?_, fun hs hlt => ?_, fun hs hle => ?_, fun hs hlt => ?_, fun hs hle => ?_⟩
  · simp [Delivery.netted, hs]
  · simp [Delivery.netted, hs, hlt]
  · simp [Delivery.netted, hs, hle, Nat.not_lt.mpr hle]
  · simp [Delivery.netted, hs, hlt]
  · simp [Delivery.netted, hs, Nat.not_lt.mpr hle]

/-- Settles O52: the netting by `State.net_byState`, the ends of the step by `State.completeWrite_lone` and
`exec_ticketDone`. -/
theorem nettingsTakeEffectByState : Obligations.NettingsTakeEffectByState := by
  refine ⟨?_, ?_⟩
  · intro s f m k d trash net hinput hlone hreq hstatus hd hopen x y
    let r := (s.recorded f).modDelivery k.delivery fun d => { d with pendingNet := none }
    let e : Delivery := { d with pendingNet := none }
    have hr : r.delivery? k.delivery = some e := (State.modDelivery_delivery? _).trans (congrArg _ hd)
    let v := r.net k.delivery x
    have honly : v = { r with dt := v.dt, feed := v.feed } := State.net_only hr x
    have hsettle : v.settleTest k.delivery = v := State.settleTest_net hr x hopen
    obtain ⟨hnetted, -, hothers⟩ := State.net_effect hr x
    have hcomplete : (s.recorded f).requesterComplete f.record.sequence f.request =
        v.notify (.tareTicket f.record.sequence k) := by
      simp only [State.requesterComplete, hreq, State.storedComplete, hstatus]
      exact congrArg (State.notify · _) hsettle
    obtain ⟨t, hexec, hends, ht⟩ := exec_completed hinput hlone hcomplete (by rw [honly]; rfl) (by rw [honly]; rfl)
    have hdelivery (m : Nat) : t.delivery? m = v.delivery? m := by rw [ht]; rfl
    have hrest : t = { s with
        dt := t.dt, feed := t.feed, store := t.store, lines := t.lines, link := t.link } := by
      rw [ht, honly]; rfl
    obtain ⟨hgross, hqueued, hleft, hcrushed, hover⟩ := State.net_byState hr x
      ((hdelivery _).trans hnetted) (show t.feed = v.feed by rw [ht])
    refine ⟨t, hexec, by rw [ht], hends, hgross, hqueued, hleft, hcrushed, hover, fun m hm => ?_, ?_⟩
    · rw [hdelivery, hothers m hm]
      exact State.modDelivery_delivery?_ne _ hm
    · rw [hrest]
      exact ⟨rfl, rfl, rfl, rfl, rfl, rfl, rfl, rfl⟩
  · intro s f b k d hinput hs hf hreq htickets hshared hwaiting hheld hd hopen
    have hlone : s.loneWrite f := ⟨hs, hf, htickets, hshared, hwaiting⟩
    have hticket : (s.recorded f).requesterComplete f.record.sequence f.request =
        (s.recorded f).ticketDone b fun u => u.tareComplete f.record.sequence k := by
      simp only [State.requesterComplete, hreq]
    let u := (s.recorded f).unbound b
    cases hstatus : k.status with
    | rejected =>
      let v := u.modDelivery k.delivery fun d => { d with tareRejected := true }
      obtain ⟨t, hexec, ht⟩ := exec_ticketDone (v := v) (body := .tareTicket f.record.sequence k) hinput hlone hticket
        (by simp only [State.tareComplete, hstatus]; rfl) rfl rfl rfl rfl hheld
      obtain ⟨hdt, hvehicles, hfeed, hwindows, hgrowers, hshift⟩ := ht.tables
      obtain ⟨hchannels, hclock, hpending⟩ := ht.units
      have hdelivery (m : Nat) : t.delivery? m = v.delivery? m :=
        congrArg (fun x : DeliveryTable => x.records.find m) hdt
      refine ⟨t, hexec, by rw [ht.store]; rfl, by rw [ht.store]; rfl, ht.unbound.1, ⟨ht.toldFree, ht.toldLocked⟩,
        fun m hm => (hdelivery m).trans (State.modDelivery_delivery?_ne _ hm), nofun, fun _ => ⟨?_, hfeed, hvehicles⟩,
        hwindows, hgrowers, hshift, hchannels, hclock, hpending⟩
      exact (hdelivery _).trans ((State.modDelivery_delivery? _).trans (congrArg _ hd))
    | accepted trash net =>
      let x : Netting :=
        { tare := k.tare, source := .weighed, sequence := f.record.sequence, trash := trash, net := net }
      let tared (v : Vehicle) : Vehicle := { v with
        stored := some { kg := k.tare, time := k.time, sequence := f.record.sequence }, uses := s.shift.working.retare }
      let r := u.modVehicle k.vehicle tared
      have hr : r.delivery? k.delivery = some d := hd
      let v := r.net k.delivery x
      have honly : v = { r with dt := v.dt, feed := v.feed } := State.net_only hr x
      have hsettle : v.settleTest k.delivery = v := State.settleTest_net hr x hopen
      obtain ⟨hnetted, -, hothers⟩ := State.net_effect hr x
      obtain ⟨t, hexec, ht⟩ := exec_ticketDone (v := v) (body := .tareTicket f.record.sequence k) hinput hlone hticket
        (by simp only [State.tareComplete, hstatus]; exact congrArg (State.notify · _) hsettle) (by rw [honly]; rfl)
        (by rw [honly]; rfl) (by rw [honly]; rfl) (by rw [honly]; rfl) hheld
      obtain ⟨hdt, hvehicles, hfeed, hwindows, hgrowers, hshift⟩ := ht.tables
      obtain ⟨hchannels, hclock, hpending⟩ := ht.units
      have hdelivery (m : Nat) : t.delivery? m = v.delivery? m :=
        congrArg (fun x : DeliveryTable => x.records.find m) hdt
      have hveh : t.vehicles = Table.modify s.vehicles k.vehicle tared := by rw [hvehicles, honly]; rfl
      obtain ⟨hgross, hqueued, hleft, hcrushed, hover⟩ := State.net_byState hr x
        ((hdelivery _).trans hnetted) hfeed
      refine ⟨t, hexec, by rw [ht.store]; rfl, by rw [ht.store]; rfl, ht.unbound.1, ⟨ht.toldFree, ht.toldLocked⟩,
        fun m hm => (hdelivery m).trans (hothers m hm), ?_, nofun, ?_⟩
      · intro trash' net' hsame
        obtain ⟨rfl, rfl⟩ : trash = trash' ∧ net = net' := TareStatus.accepted.inj hsame
        refine ⟨hgross, hqueued, hleft, hcrushed, hover, fun y hy => ?_, fun hy => ?_⟩
        · rw [State.vehicle?, hveh]
          exact (Table.find_modify_self _ _ _).trans (congrArg _ hy)
        · rw [hveh]
          exact Table.modify_of_missing hy _
      · rw [hwindows, hgrowers, hshift, hchannels, hclock, hpending, honly]
        exact ⟨rfl, rfl, rfl, rfl, rfl, rfl⟩

end Sys2Proof.Machine

/-! SUPPORT. The settlement tests and the release test that follow a WINDOW record. -/
namespace Sys2Proof.Machine

open Sys2Proof

/-! ## Tables -/

theorem Table.mem_of_find {α : Type} {t : Table α} {n : Nat} {a : α} (h : t.find n = some a) : (n, a) ∈ t := by
  induction t with
  | nil => cases h
  | cons p t ih =>
    obtain ⟨k, b⟩ := p
    by_cases hk : k = n
    · obtain rfl : b = a := by simpa [Table.find, hk] using h
      exact hk ▸ List.mem_cons_self
    · exact List.mem_cons_of_mem _ (ih (by simpa [Table.find, hk] using h))

theorem Table.find_of_mem {α : Type} {t : Table α} (hwf : t.wf) {n : Nat} {a : α} (h : (n, a) ∈ t) :
    t.find n = some a := by
  induction t with
  | nil => cases h
  | cons p t ih =>
    obtain ⟨hp, ht⟩ := List.pairwise_cons.mp hwf
    rcases List.mem_cons.mp h with rfl | h
    · simp [Table.find]
    · have hk : p.1 ≠ n := Nat.ne_of_lt (hp _ h)
      simpa [Table.find, hk] using ih ht h

section

variable {s t : State}

/-! ## What the window table's own steps leave alone -/

@[simp] theorem State.modWindow_window? (n : Nat) (f : Window → Window) :
    (s.modWindow n f).window? n = (s.window? n).map f := Table.find_modify_self _ _ _

theorem State.modWindow_window?_ne {n m : Nat} (h : m ≠ n) (f : Window → Window) :
    (s.modWindow n f).window? m = s.window? m := Table.find_modify_other _ _ h

/-- The units that no step of the window table changes, with the last sequence number and the port's input. -/
def State.beside (s : State) :
    Quad Bridge × Quad Channel × Table Vehicle × List Nat × Table Grower × Clock × List Instr × Nat × List Frame :=
  (s.bridges, s.channels, s.vehicles, s.feed, s.growers, s.clock, s.pending, s.store.lastSequence, s.link.input)

@[simp] theorem Store.moveUp_lastSequence (x : Store) : x.moveUp.lastSequence = x.lastSequence := by
  unfold Store.moveUp
  split
  · split <;> rfl
  · rfl

theorem Store.choose_lastSequence {x y : Store} {r : WriteRequest} (h : x.choose = some (r, y)) :
    y.lastSequence = x.lastSequence := by
  unfold Store.choose at h
  repeat' split at h
  all_goals cases h
  all_goals simp

@[simp] theorem State.startNext_lastSequence (s : State) : s.startNext.store.lastSequence = s.store.lastSequence := by
  unfold State.startNext
  repeat' split
  · rfl
  · rfl
  · rfl
  · next r y h => exact Store.choose_lastSequence (y := y) h

@[simp] theorem State.requestWrite_lastSequence (s : State) (r : Requester) (body : RecordBody) :
    (s.requestWrite r body).store.lastSequence = s.store.lastSequence := by
  rw [State.requestWrite, State.startNext_lastSequence]
  unfold Store.place
  dsimp only
  split
  · rfl
  · split <;> rfl

@[simp] theorem State.startNext_beside (s : State) : s.startNext.beside = s.beside := by simp [State.beside]

@[simp] theorem State.requestWrite_beside (s : State) (r : Requester) (body : RecordBody) :
    (s.requestWrite r body).beside = s.beside := by simp [State.beside]

@[simp] theorem State.notify_beside (s : State) (body : NoticeBody) : (s.notify body).beside = s.beside := by
  simp [State.beside]

@[simp] theorem State.raise_beside (s : State) (f : Flag) : (s.raise f).beside = s.beside := by simp [State.beside]

@[simp] theorem State.judgeStore_beside (s : State) : s.judgeStore.beside = s.beside := by
  unfold State.judgeStore
  dsimp only
  repeat' split
  all_goals simp [State.beside]

@[simp] theorem State.voidWindow_beside (s : State) (n : Nat) (mark : Window → Window) :
    (s.voidWindow n mark).beside = s.beside := by
  unfold State.voidWindow State.requestWindowRecord
  split
  · exact State.requestWrite_beside _ _ _
  · rfl

@[simp] theorem State.openWindow_beside (s : State) (shift : Nat) : (s.openWindow shift).beside = s.beside :=
  State.judgeStore_beside _

/-- From `s` to `t` nothing changes beside the window table, no delivery, and no window numbered below `k`. -/
def State.KeptBelow (k : Nat) (s t : State) : Prop :=
  t.beside = s.beside ∧ t.dt = s.dt ∧ k ≤ t.windows.counter ∧ ∀ m, m < k → t.window? m = s.window? m

namespace State.KeptBelow

variable {k : Nat} (h : State.KeptBelow k s t)

theorem refl (h : k ≤ s.windows.counter) : State.KeptBelow k s s := ⟨rfl, rfl, h, fun _ _ => rfl⟩

include h

theorem of_eq {u : State} (hbeside : u.beside = t.beside) (hdt : u.dt = t.dt) (hwindows : u.windows = t.windows) :
    State.KeptBelow k s u := by
  obtain ⟨hb, hd, hc, hw⟩ := h
  refine ⟨hbeside.trans hb, hdt.trans hd, by rwa [hwindows], fun m hm => ?_⟩
  rw [State.window?, hwindows]
  exact hw m hm

theorem modWindow {n : Nat} (hn : k ≤ n) (f : Window → Window) : State.KeptBelow k s (t.modWindow n f) := by
  obtain ⟨hb, hd, hc, hw⟩ := h
  refine ⟨hb, hd, hc, fun m hm => ?_⟩
  have hne : m ≠ n := by omega
  exact (State.modWindow_window?_ne hne f).trans (hw m hm)

theorem voidWindow {n : Nat} (hn : k ≤ n) (mark : Window → Window) : State.KeptBelow k s (t.voidWindow n mark) :=
  (h.modWindow hn _).of_eq (t.voidWindow_beside n mark) (t.voidWindow_dt n mark) (State.requestWindowRecord_windows _ n)

theorem openWindow (shift : Nat) : State.KeptBelow k s (t.openWindow shift) := by
  obtain ⟨hb, hd, hc, hw⟩ := h
  refine ⟨(t.openWindow_beside shift).trans hb, (t.openWindow_dt shift).trans hd, ?_, fun m hm => ?_⟩
  · rw [State.openWindow, State.reserve_windows]
    exact Nat.le_succ_of_le hc
  · rw [State.openWindow, State.window?, State.reserve_windows]
    exact (Table.find_put_other t.windows.records _ (by omega)).trans (hw m hm)

theorem notify (body : NoticeBody) : State.KeptBelow k s (t.notify body) :=
  h.of_eq (t.notify_beside body) (t.notify_dt body) (t.notify_windows body)

theorem tally (f : Accumulators → Accumulators) : State.KeptBelow k s (t.tally f) := h.of_eq rfl rfl rfl

theorem ite {c : Prop} [Decidable c] {u : State} (hu : State.KeptBelow k s u) :
    State.KeptBelow k s (if c then t else u) := by
  split
  · exact h
  · exact hu

theorem closeWindow (shift : Nat) : State.KeptBelow k s (t.closeWindow shift) := by
  have hcounter : k ≤ t.openNumber := h.2.2.1
  unfold State.closeWindow
  extract_lets n time
  split
  · exact h
  · extract_lets s₁ s₂ s₃
    have h₁ : State.KeptBelow k s s₁ := (h.voidWindow hcounter _).ite (h.modWindow hcounter _)
    have h₃ : State.KeptBelow k s s₃ := (h₁.openWindow shift).tally _
    split
    · exact h₃.notify _
    · exact h₃

theorem closeRetest : State.KeptBelow k s t.closeRetest := (h.closeWindow _).ite h

end State.KeptBelow

/-! ## The settlement tests of a window (R21, R63) -/

theorem State.readyToSettle_congr (h : t.windows = s.windows) (d : Delivery) :
    t.readyToSettle d = s.readyToSettle d := by
  have hpart : t.partSettled = s.partSettled := by
    funext p
    simp only [State.partSettled, State.window?, h]
  rw [State.readyToSettle, State.readyToSettle, hpart]

/-- A delivery after its settlement test (R21). -/
def State.settled (s : State) (d : Delivery) : Delivery :=
  if s.readyToSettle d then { d with state := .settling } else d

theorem State.settled_settled (s : State) (d : Delivery) : s.settled (s.settled d) = s.settled d := by
  by_cases h : s.readyToSettle d
  · have hd : s.settled d = { d with state := .settling } := if_pos h
    rw [hd]
    exact if_neg (by simp [State.readyToSettle])
  · have hd : s.settled d = d := if_neg h
    rw [hd, hd]

theorem State.handOver_keeps (s : State) (n : Nat) :
    (s.handOver n).beside = s.beside ∧ (s.handOver n).dt = s.dt ∧ (s.handOver n).windows = s.windows ∧
      (s.handOver n).link = s.link := by
  unfold State.handOver
  repeat' split
  all_goals simp

theorem State.settleTest_keeps (s : State) (n : Nat) :
    (s.settleTest n).beside = s.beside ∧ (s.settleTest n).windows = s.windows ∧ (s.settleTest n).link = s.link := by
  unfold State.settleTest
  repeat' split
  · exact ⟨rfl, rfl, rfl⟩
  · obtain ⟨hbeside, -, hwindows, hlink⟩ :=
      State.handOver_keeps (s.modDelivery n fun d => { d with state := .settling }) n
    exact ⟨hbeside, hwindows, hlink⟩
  · exact ⟨rfl, rfl, rfl⟩

theorem State.settleTest_delivery? (s : State) (n m : Nat) :
    (s.settleTest n).delivery? m = if m = n then (s.delivery? m).map s.settled else s.delivery? m := by
  unfold State.settleTest
  split
  · next hn =>
    split
    · next h => rw [h, hn]; rfl
    · rfl
  · next d hd =>
    split
    · next hready =>
      obtain ⟨-, hdt, -⟩ := State.handOver_keeps (s.modDelivery n fun d => { d with state := .settling }) n
      rw [State.delivery?, hdt]
      split
      · next h =>
        rw [h, hd, Option.map_some, State.settled, if_pos hready]
        exact (State.modDelivery_delivery? _).trans (congrArg _ hd)
      · next h => exact State.modDelivery_delivery?_ne _ h
    · next hready =>
      split
      · next h => simp [h, hd, State.settled, hready]
      · rfl

theorem State.foldl_settleTest_keeps (l : List Nat) (s : State) :
    let t := l.foldl State.settleTest s
    t.beside = s.beside ∧ t.windows = s.windows ∧ t.link = s.link := by
  induction l generalizing s with
  | nil => exact ⟨rfl, rfl, rfl⟩
  | cons n l ih =>
    obtain ⟨hb, hw, hl⟩ := ih (s.settleTest n)
    obtain ⟨hb', hw', hl'⟩ := s.settleTest_keeps n
    exact ⟨hb.trans hb', hw.trans hw', hl.trans hl'⟩

theorem State.foldl_settleTest_delivery? (l : List Nat) (s : State) (m : Nat) :
    (l.foldl State.settleTest s).delivery? m = if m ∈ l then (s.delivery? m).map s.settled else s.delivery? m := by
  induction l generalizing s with
  | nil => rfl
  | cons n l ih =>
    have hsettled : (s.settleTest n).settled = s.settled := by
      funext d
      rw [State.settled, State.settled, State.readyToSettle_congr (s.settleTest_keeps n).2.1]
    rw [List.foldl_cons, ih, hsettled, State.settleTest_delivery?]
    by_cases hn : m = n <;> by_cases hl : m ∈ l <;> simp [hn, hl, State.settled_settled, Function.comp_def]

theorem State.mem_deliveriesNaming {n m : Nat} {d : Delivery} (hwf : s.dt.records.wf) (hd : s.delivery? m = some d) :
    m ∈ s.deliveriesNaming n ↔ ∃ p ∈ d.parts, p.window = n := by
  have hmem : (m, d) ∈ s.dt.records := Table.mem_of_find hd
  have hnames (e : Delivery) : (e.parts.any fun q => q.window == n) = true ↔ ∃ p ∈ e.parts, p.window = n := by simp
  simp only [State.deliveriesNaming, Table.keys, List.mem_map, List.mem_filter, hnames]
  constructor
  · rintro ⟨⟨k, e⟩, ⟨he, hp⟩, rfl⟩
    obtain rfl := Option.some.inj ((Table.find_of_mem hwf he).symm.trans hd)
    exact hp
  · exact fun hp => ⟨(m, d), ⟨hmem, hp⟩, rfl⟩

theorem State.settleTestsOf_keeps (s : State) (n : Nat) :
    (s.settleTestsOf n).beside = s.beside ∧ (s.settleTestsOf n).windows = s.windows ∧
      (s.settleTestsOf n).link = s.link :=
  State.foldl_settleTest_keeps _ s

/-- The settlement tests of a window reach the deliveries that name it (R21, R63). -/
theorem State.settleTestsOf_delivery? {n m : Nat} {d : Delivery} (hwf : s.dt.records.wf) (hd : s.delivery? m = some d) :
    ((∃ p ∈ d.parts, p.window = n) → (s.settleTestsOf n).delivery? m = some (s.settled d)) ∧
    ((¬ ∃ p ∈ d.parts, p.window = n) → (s.settleTestsOf n).delivery? m = some d) := by
  rw [← State.mem_deliveriesNaming hwf hd, State.settleTestsOf, State.foldl_settleTest_delivery?, hd]
  exact ⟨fun h => if_pos h, fun h => if_neg h⟩

theorem State.settleTestsOf_missing {n m : Nat} (hd : s.delivery? m = none) :
    (s.settleTestsOf n).delivery? m = none := by
  rw [State.settleTestsOf, State.foldl_settleTest_delivery?, hd]
  exact ite_self _

/-! ## The release of a window (R65) -/

theorem State.closeRetest_of_not_extended (h : ∀ v, s.window? s.windows.counter = some v → v.extended = false) :
    s.closeRetest = s := by
  have hopen : s.openExtended = false := by
    unfold State.openExtended
    split
    · next v hv => exact h v hv
    · rfl
  rw [State.closeRetest, hopen]
  rfl

theorem State.releaseTest_effect {n : Nat} {w : Window} (hw : s.window? n = some w) (hset : w.settled = true)
    (hn : n < s.windows.counter) :
    let t := s.releaseTest n
    t.beside = s.beside ∧ t.dt = s.dt ∧ (w.refs = 0 → t.window? n = none) ∧ (w.refs ≠ 0 → t.window? n = some w) ∧
      (∀ m, m ≠ n → m < s.windows.counter → t.window? m = s.window? m) ∧
      ((∀ v, s.window? s.windows.counter = some v → v.extended = false) → t.link = s.link) := by
  intro t
  have ht : t = if w.refs = 0
      then State.closeRetest { s with windows := { s.windows with records := s.windows.records.drop n } } else s := by
    simp only [t, State.releaseTest, hw, hset, Bool.true_and, beq_iff_eq]
  by_cases hrefs : w.refs = 0
  · let u : State := { s with windows := { s.windows with records := s.windows.records.drop n } }
    have htu : t = u.closeRetest := ht.trans (if_pos hrefs)
    have hu (m : Nat) : u.window? m = if m = n then none else s.window? m := Table.find_drop s.windows.records n m
    obtain ⟨hbeside, hdt, -, hbelow⟩ := (State.KeptBelow.refl (s := u) (k := s.windows.counter) le_rfl).closeRetest
    rw [htu]
    refine ⟨hbeside, hdt, fun _ => ?_, fun h => absurd hrefs h, fun m hm hlt => ?_, fun hopen => ?_⟩
    · rw [hbelow n hn, hu, if_pos rfl]
    · rw [hbelow m hlt, hu, if_neg hm]
    · have hne : s.windows.counter ≠ n := (Nat.ne_of_lt hn).symm
      have hkept : u.closeRetest = u := State.closeRetest_of_not_extended fun v hv => hopen v (by
        rwa [show u.window? u.windows.counter = _ from hu _, if_neg hne] at hv)
      rw [hkept]
  · rw [ht, if_neg hrefs]
    exact ⟨rfl, rfl, fun h => absurd h hrefs, fun _ => hw, fun _ _ _ => rfl, fun _ => rfl⟩

/-! ## The completion of a WINDOW record (R63) -/

theorem State.windowComplete_eq {n sequence : Nat} {w : Window} (hw : s.window? n = some w) :
    s.windowComplete sequence n = State.releaseTest (State.settleTestsOf
      ((s.modWindow n fun w => { w with summaryWritten := true }).notify
        (.windowFinal n sequence { w with summaryWritten := true })) n) n := by
  have hw' : (s.modWindow n fun w => { w with summaryWritten := true }).window? n =
      some { w with summaryWritten := true } :=
    (State.modWindow_window? n _).trans (congrArg _ hw)
  simp only [State.windowComplete, hw']

/-- With a window's record written, a part is settled where its window is final and is that one or written before. -/
theorem State.partSettled_written {n : Nat} {w : Window} (hw : s.window? n = some w)
    (hfinal : w.state = .resulted ∨ w.state = .voided) (p : Part) :
    (s.modWindow n fun w => { w with summaryWritten := true }).partSettled p = true ↔
      ∃ v, s.window? p.window = some v ∧ (v.state = .resulted ∨ v.state = .voided) ∧
        (p.window = n ∨ v.summaryWritten = true) := by
  by_cases hp : p.window = n
  · simp [State.partSettled, hp, hw, Window.settled, hfinal]
  · rw [State.partSettled, State.modWindow_window?_ne hp]
    cases hv : s.window? p.window <;> simp [Window.settled, hp]

theorem State.readyToSettle_written {n : Nat} {w : Window} (hw : s.window? n = some w)
    (hfinal : w.state = .resulted ∨ w.state = .voided) (d : Delivery) :
    (s.modWindow n fun w => { w with summaryWritten := true }).readyToSettle d = true ↔
      d.netting.isSome = true ∧ d.state = .crushed ∧ ∀ p ∈ d.parts, ∃ v, s.window? p.window = some v ∧
        (v.state = .resulted ∨ v.state = .voided) ∧ (p.window = n ∨ v.summaryWritten = true) := by
  simp only [State.readyToSettle, Bool.and_eq_true, List.all_eq_true, beq_iff_eq, and_assoc,
    State.partSettled_written hw hfinal]

/-- What a WINDOW record's completion makes of the deliveries, of the windows and of the link (R21, R63, R65). -/
theorem State.windowComplete_effect {n sequence : Nat} {w : Window} (hwf : s.dt.records.wf) (hw : s.window? n = some w)
    (hfinal : w.state = .resulted ∨ w.state = .voided) (hn : n < s.windows.counter) :
    let t := s.windowComplete sequence n
    let written := s.modWindow n fun w => { w with summaryWritten := true }
    t.beside = s.beside ∧
      (∀ m d, s.delivery? m = some d →
        ((∃ p ∈ d.parts, p.window = n) → t.delivery? m = some (written.settled d)) ∧
        ((¬ ∃ p ∈ d.parts, p.window = n) → t.delivery? m = some d)) ∧
      (∀ m, s.delivery? m = none → t.delivery? m = none) ∧
      (w.refs = 0 → t.window? n = none) ∧ (w.refs ≠ 0 → t.window? n = some { w with summaryWritten := true }) ∧
      (∀ m, m ≠ n → m < s.windows.counter → t.window? m = s.window? m) ∧
      ((∀ v, s.window? s.windows.counter = some v → v.extended = false) →
        t.link = (s.notify (.windowFinal n sequence { w with summaryWritten := true })).link) := by
  intro t written
  let s₁ := written.notify (.windowFinal n sequence { w with summaryWritten := true })
  let s₂ := s₁.settleTestsOf n
  obtain ⟨hbeside₂, hwindows₂, hlink₂⟩ : s₂.beside = s₁.beside ∧ s₂.windows = s₁.windows ∧ s₂.link = s₁.link :=
    s₁.settleTestsOf_keeps n
  have hwindows : s₂.windows = written.windows := hwindows₂.trans (written.notify_windows _)
  have hwindow (m : Nat) : s₂.window? m = written.window? m :=
    congrArg (fun x : WindowTable => x.records.find m) hwindows
  have hdt₁ : s₁.dt = s.dt := written.notify_dt _
  have hdelivery (m : Nat) : s₁.delivery? m = s.delivery? m := congrArg (fun x : DeliveryTable => x.records.find m) hdt₁
  have hsettled : s₁.settled = written.settled := by
    funext d
    rw [State.settled, State.settled, State.readyToSettle_congr (written.notify_windows _)]
  have hwf₁ : s₁.dt.records.wf := hdt₁ ▸ hwf
  have ht : t = s₂.releaseTest n := State.windowComplete_eq hw
  obtain ⟨hbeside, hdt, hfreed, hkept, hbelow, hlink⟩ := State.releaseTest_effect (s := s₂) (n := n)
    (w := { w with summaryWritten := true }) ((hwindow n).trans ((State.modWindow_window? n _).trans (congrArg _ hw)))
    (by simp [Window.settled, hfinal]) (by rw [hwindows]; exact hn)
  rw [ht]
  have hdeliveries (m : Nat) : (s₂.releaseTest n).delivery? m = s₂.delivery? m :=
    congrArg (fun x : DeliveryTable => x.records.find m) hdt
  refine ⟨?_, fun m d hd => ?_, fun m hd => ?_, hfreed, hkept, fun m hm hlt => ?_, fun hopen => ?_⟩
  · exact hbeside.trans (hbeside₂.trans (written.notify_beside _))
  · rw [hdeliveries, ← hsettled]
    exact State.settleTestsOf_delivery? hwf₁ ((hdelivery m).trans hd)
  · rw [hdeliveries]
    exact State.settleTestsOf_missing ((hdelivery m).trans hd)
  · rw [hbelow m hm (by rw [hwindows]; exact hlt), hwindow]
    exact State.modWindow_window?_ne hm _
  · rw [hlink fun v hv => ?_, hlink₂]
    · exact State.notify_link_congr (s := written) (t := s) rfl _
    · refine hopen v ?_
      rw [hwindow, hwindows] at hv
      exact (State.modWindow_window?_ne (Nat.ne_of_gt hn) _).symm.trans hv

end

/-- Settles O54, by `State.windowComplete_effect` between the port's steps. -/
theorem windowRecordsSettleTheirDeliveries : Obligations.WindowRecordsSettleTheirDeliveries := by
  intro s f n w old hcanon hone hinput hs hf hreq hw hfinal done ready
  obtain ⟨hwf, -⟩ := hcanon
  obtain ⟨⟨o, ho, hopen⟩, hcounter⟩ := hone
  have hne : n ≠ s.windows.counter := by
    rintro rfl
    obtain rfl := Option.some.inj (ho.symm.trans hw)
    rcases hfinal with h | h <;> exact nomatch hopen.symm.trans h
  have hn : n < s.windows.counter := Nat.lt_of_le_of_ne (hcounter n w hw).1 hne
  obtain ⟨hbeside, hdeliveries, hmissing, hfreed, hkept, hbelow, hlink⟩ :=
    State.windowComplete_effect (s := s.recorded f) (sequence := f.record.sequence) hwf hw hfinal hn
  let r := (s.recorded f).windowComplete f.record.sequence n
  have hr : (s.recorded f).requesterComplete f.record.sequence f.request = r := by
    simp only [State.requesterComplete, hreq]
    rfl
  let u := State.startNext { r with store := { r.store with inFlight := none } }
  have hdone : s.completeWrite = u := (State.completeWrite_eq hs hf).trans (by rw [hr])
  have hu : u.beside = (s.recorded f).beside := (State.startNext_beside _).trans hbeside
  simp only [State.beside, Prod.mk.injEq] at hu
  obtain ⟨hbridges, hchannels, hvehicles, hfeed, hgrowers, hclock, hpending, hsequence, hport⟩ := hu
  let t := u.settleLink
  have ht : t = u.pump := u.settleLink_of_empty (hport.trans hinput)
  have hdelivery (m : Nat) : t.delivery? m = r.delivery? m := by
    rw [ht, State.delivery?, State.pump_dt, State.startNext_dt]
    rfl
  have hwindow (m : Nat) : t.window? m = r.window? m := by
    rw [ht, State.window?, State.pump_windows, State.startNext_windows]
    rfl
  have hready (d : Delivery) : ready d ↔ (∃ p ∈ d.parts, p.window = n) ∧
      ((s.recorded f).modWindow n fun w => { w with summaryWritten := true }).readyToSettle d = true := by
    rw [State.readyToSettle_written (s := s.recorded f) hw hfinal]
    exact ⟨fun ⟨hx, hc, hnames, hall⟩ => ⟨hnames, hx, hc, hall⟩, fun ⟨hnames, hx, hc, hall⟩ => ⟨hx, hc, hnames, hall⟩⟩
  refine ⟨t, congrArg (fun t : State => Host.Outcome.next t.settleLink) hdone, ?_, fun hx => ?_, fun m d hd => ?_,
    fun m hd => (hdelivery m).trans (hmissing m hd), fun h => (hwindow n).trans (hfreed h),
    fun h => (hwindow n).trans (hkept h), fun m hm hlt => (hwindow m).trans (hbelow m hm hlt), ?_⟩
  · rw [ht, State.pump_store]
    exact hsequence
  · refine ⟨u, rfl, ?_⟩
    rw [State.startNext_link]
    exact (hlink hx).trans (State.notify_link_congr (s := s.recorded f) (t := s) rfl _)
  · obtain ⟨hnames, hothers⟩ := hdeliveries m d hd
    rw [hdelivery, hready]
    refine ⟨fun ⟨hn, hs⟩ => (hnames hn).trans (congrArg some (if_pos hs)), fun hno => ?_⟩
    by_cases hn : ∃ p ∈ d.parts, p.window = n
    · exact (hnames hn).trans (congrArg some (if_neg fun hs => hno ⟨hn, hs⟩))
    · exact hothers hn
  · simp only [ht, State.pump_vehicles, State.pump_feed, State.pump_growers, State.pump_bridges, State.pump_channels,
      State.pump_clock, State.pump_pending]
    exact ⟨hvehicles, hfeed, hgrowers, hbridges, hchannels, hclock, hpending⟩

end Sys2Proof.Machine

/-! SUPPORT. What a bridge does with a stable reading. -/
namespace Sys2Proof.Machine

open Sys2Proof

section

variable {s : State} {b : BridgeNo}

/-! ## The period's end (R123, R124) -/

theorem State.modChannel_modChannel (f g : Channel → Channel) :
    (s.modChannel b f).modChannel b g = s.modChannel b fun c => g (f c) := by
  cases b <;> rfl

theorem State.modChannel_congr {f g : Channel → Channel} (h : f (s.channel b) = g (s.channel b)) :
    s.modChannel b f = s.modChannel b g :=
  congrArg (fun c => ({ s with channels := s.channels.set b c } : State)) h

/-- A period ends stable. -/
def State.stablePeriod (s : State) (b : BridgeNo) : State :=
  s.modChannel b fun c => { c with period := none, lastStable := true }

theorem State.stablePeriod_channel : (s.stablePeriod b).channel b =
    { s.channel b with period := none, lastStable := true } := s.modChannel_channel b _

theorem State.stablePeriod_channel_ne {c : BridgeNo} (h : c ≠ b) : (s.stablePeriod b).channel c = s.channel c :=
  s.modChannel_channel_ne _ h

theorem exec_stable {p : Period} {r count : Int} (hp : (s.channel b).period = some p)
    (hr : (s.channel b).rounded = some r) (hc : (s.channel b).filtered = count) :
    exec (.stableEnding b) s = .next (State.settleLink ((s.stablePeriod b).stableEnding b r count)) := by
  have hstable : s.periodStable b = (s.stablePeriod b).stableEnding b r count := by
    simp only [State.periodStable, hp, hr, hc]
    rfl
  rw [← hstable]
  rfl

theorem State.stableEnding_bound (h : (s.bridge b).state = .bound) (r count : Int) :
    s.stableEnding b r count = s.captureTest b r := by
  simp only [State.stableEnding, h]

theorem State.stableEnding_calibrating (h : (s.bridge b).state = .calibrating) (r count : Int) :
    s.stableEnding b r count = s.stepReading b count := by
  simp only [State.stableEnding, h]

theorem State.stableEnding_idle (h : (s.bridge b).state = .idle) (r count : Int) :
    s.stableEnding b r count = s.zeroCheck b r count := by
  simp only [State.stableEnding, h]

/-! ## Captures (R101) -/

/-- A BOUND bridge goes to CAPTURE (R101). -/
def State.captured (s : State) (b : BridgeNo) : State :=
  s.modBridge b fun y => { y with state := .capture, bindTimer := none }

theorem State.captureTest_gross {r : Int} {x : Binding} {cls g insp : Nat} {wish : Bool}
    (hpresent : (s.bridge b).present = true) (hlow : ((20 * (s.channel b).active.division : Nat) : Int) ≤ r)
    (hover : (s.channel b).overrange = false) (hx : (s.bridge b).binding = some x)
    (hpass : x.pass = .gross cls g insp wish) :
    let c := (s.captured b).grossCapture b x.vehicle cls g insp wish r.toNat
    s.captureTest b r = c.1.requestWrite (.bridge b) (.gross c.2) := by
  refine (if_pos ⟨hpresent, hlow, hover⟩).trans ?_
  simp only [hx, hpass]
  rfl

theorem State.captureTest_tare {r : Int} {x : Binding} {n : Nat} {t : TareTicket}
    (hpresent : (s.bridge b).present = true) (hlow : ((20 * (s.channel b).active.division : Nat) : Int) ≤ r)
    (hover : (s.channel b).overrange = false) (hx : (s.bridge b).binding = some x) (hpass : x.pass = .tare n)
    (ht : (s.captured b).tareCapture b n r.toNat = some t) :
    s.captureTest b r = (s.captured b).requestWrite (.bridge b) (.tare t) := by
  refine (if_pos ⟨hpresent, hlow, hover⟩).trans ?_
  rw [State.captured] at ht
  simp only [hx, hpass, ht]
  rfl

theorem State.captureTest_failing {r : Int} (h : (s.bridge b).present = false ∨
    r < ((20 * (s.channel b).active.division : Nat) : Int) ∨ (s.channel b).overrange = true) :
    s.captureTest b r = s := by
  refine if_neg fun ⟨hpresent, hlow, hover⟩ => ?_
  rcases h with h | h | h
  · exact nomatch h.symm.trans hpresent
  · exact absurd hlow (Int.not_le.mpr h)
  · exact nomatch h.symm.trans hover

/-! ### The stored tare (R8) -/

theorem State.storedStatus_applied {vehicle insp kg : Nat} {v : Vehicle} {t : StoredTare}
    (hv : s.vehicle? vehicle = some v) (ht : v.stored = some t) (huses : 0 < v.uses) (hkg : t.kg < kg) :
    s.storedStatus vehicle insp kg =
      .applied t.kg (trashOf kg t.kg (s.permille insp)) (netOf kg t.kg (s.permille insp)) := by
  simp only [State.storedStatus, hv, ht, huses, hkg, and_self, if_true]

theorem State.storedStatus_unavailable {vehicle insp kg : Nat}
    (h : ∀ v t, s.vehicle? vehicle = some v → v.stored = some t → v.uses = 0 ∨ kg ≤ t.kg) :
    s.storedStatus vehicle insp kg = .unavailable := by
  unfold State.storedStatus
  split
  · rfl
  · next v hv =>
    split
    · rfl
    · next t ht =>
      refine if_neg fun ⟨huses, hkg⟩ => ?_
      have := h v t hv ht
      omega

theorem State.grossCapture_eq {vehicle cls g insp kg : Nat} {wish : Bool} {status : StoredStatus} {y : Grower}
    (hstatus : (if wish then s.storedStatus vehicle insp kg else .notAsked) = status) (hy : s.grower? g = some y) :
    let numbered : State := { s with dt := { s.dt with counter := s.dt.counter + 1 } }
    s.grossCapture b vehicle cls g insp wish kg =
      (if status.isApplied then numbered.modVehicle vehicle fun v => { v with uses := v.uses - 1 } else numbered,
        { delivery := s.dt.counter + 1, grower := g, vehicle := vehicle, cls := cls, inspection := insp, bridge := b
          fibre := y.fibre, gross := kg, time := s.now, stored := status }) := by
  simp only [State.grossCapture, hstatus, hy, Option.map_some, Option.getD_some]

/-! ## Zero tracking (R106) -/

/-- An IDLE bridge has reason to check its zero (R106). -/
def Bridge.zeroWanted (x : Bridge) : Prop := 0 < x.backlog ∨ x.zeroDue = true ∨ x.zeroRequest = true

section

variable {r count : Int}

theorem State.zeroCheck_within (hpresent : (s.bridge b).present = false) (hwanted : (s.bridge b).zeroWanted)
    (hin : r.natAbs ≤ (s.channel b).active.zeroBand * (s.channel b).active.division) :
    s.zeroCheck b r count = s.takeZero b count :=
  (if_pos ⟨hpresent, hwanted⟩).trans (if_pos hin)

theorem State.zeroCheck_outside (hpresent : (s.bridge b).present = false) (hwanted : (s.bridge b).zeroWanted)
    (hout : (s.channel b).active.zeroBand * (s.channel b).active.division < r.natAbs) :
    s.zeroCheck b r count = s.enterLocked b .zeroBand none :=
  (if_pos ⟨hpresent, hwanted⟩).trans (if_neg (Nat.not_le.mpr hout))

theorem State.zeroCheck_unwanted (hwanted : ¬ (s.bridge b).zeroWanted) : s.zeroCheck b r count = s :=
  if_neg fun h => hwanted h.2

end

theorem State.modBridge_entryLamp (f : Bridge → Bridge) :
    (s.modBridge b f).lines.entryLamp.get b = (s.lines.entryLamp.get b).drive (entryDemand (f (s.bridge b))) := by
  simp [State.modBridge, State.driveLamps, State.bridge]

theorem State.setZero_bridge (zero : Int) :
    (s.setZero b zero).bridge b = { s.bridge b with currentZero := zero } :=
  s.modBridge_bridge b fun x => { x with currentZero := zero }

theorem State.takeZero_bridge {count : Int} (hfits : fits32 (s.clock.minutes + s.shift.working.zeroInterval)) :
    (s.takeZero b count).bridge b = { s.bridge b with
      currentZero := count, backlog := 0, zeroDue := false, zeroRequest := false
      zeroDeadline := s.clock.minutes + s.shift.working.zeroInterval } := by
  have hdeadline : s.minutesFromNow s.shift.working.zeroInterval = s.clock.minutes + s.shift.working.zeroInterval :=
    add32_fits hfits
  rw [← hdeadline, State.takeZero, State.rearmZero, State.modBridge_bridge, State.modBridge_bridge, State.setZero_bridge]
  rfl

theorem State.takeZero_channel (count : Int) : (s.takeZero b count).channel b = (s.channel b).endPeriod :=
  State.modChannel_channel (s := s.modBridge b fun x => { x with currentZero := count }) b Channel.endPeriod

theorem State.takeZero_entryLamp {count : Int} (h : (s.bridge b).state = .idle) :
    ((s.takeZero b count).lines.entryLamp.get b).on = true := by
  rw [State.takeZero, State.rearmZero, State.modBridge_entryLamp, State.modBridge_bridge, State.setZero_bridge]
  simp only [entryDemand, h]
  rfl

theorem State.takeZero_ne {c : BridgeNo} (h : c ≠ b) (count : Int) :
    (s.takeZero b count).bridge c = s.bridge c ∧ (s.takeZero b count).channel c = s.channel c := by
  let zeroed (x : Bridge) : Bridge := { x with currentZero := count }
  refine ⟨?_, State.modChannel_channel_ne (s := s.modBridge b zeroed) Channel.endPeriod h⟩
  rw [State.takeZero, State.rearmZero, State.modBridge_bridge_ne _ h, State.modBridge_bridge_ne _ h]
  exact s.modBridge_bridge_ne zeroed h

theorem State.takeZero_only (count : Int) :
    let t := s.takeZero b count
    t = { s with bridges := t.bridges, channels := t.channels, lines := t.lines } := rfl

end

theorem exec_stable_bound {s : State} {b : BridgeNo} {p : Period} {r count : Int} (hp : (s.channel b).period = some p)
    (hr : (s.channel b).rounded = some r) (hc : (s.channel b).filtered = count) (hbound : (s.bridge b).state = .bound) :
    exec (.stableEnding b) s = .next (State.settleLink ((s.stablePeriod b).captureTest b r)) := by
  rw [exec_stable hp hr hc, State.stableEnding_bound (s := s.stablePeriod b) hbound]

/-- Settles O48: the captures by `State.captureTest_gross` and `State.captureTest_tare`, the zero check by
`State.zeroCheck_within` and `State.zeroCheck_outside`. -/
theorem stableReadingsWeighAndZero : Obligations.StableReadingsWeighAndZero := by
  refine ⟨?_, ?_, ?_, ?_⟩
  · intro s b p r count x hp hr hc hbound hx hpresent hlow hover held cut
    have hlow' : ((20 * ((s.stablePeriod b).channel b).active.division : Nat) : Int) ≤ r := by
      rwa [State.stablePeriod_channel]
    have hover' : ((s.stablePeriod b).channel b).overrange = false := by rwa [State.stablePeriod_channel]
    rw [exec_stable_bound hp hr hc hbound]
    refine ⟨?_, ?_⟩
    · intro cls g insp y hpass hy numbered ticket
      rw [State.captureTest_gross (s := s.stablePeriod b) hpresent hlow' hover' hx hpass]
      refine ⟨?_, fun hno => ?_⟩
      · intro v k hv hk huses hkg cane
        have hstatus := State.storedStatus_applied (s := (s.stablePeriod b).captured b) (insp := insp) hv hk huses hkg
        rw [State.grossCapture_eq (s := (s.stablePeriod b).captured b) (wish := true) hstatus hy]
        rfl
      · have hstatus := State.storedStatus_unavailable (s := (s.stablePeriod b).captured b) (insp := insp) hno
        rw [State.grossCapture_eq (s := (s.stablePeriod b).captured b) (wish := true) hstatus hy]
        rfl
    · intro n d hpass hd ticket cane
      have hticket (kg : Nat) : held.tareCapture b n kg = some
          { delivery := n, vehicle := d.vehicle, bridge := some b, gross := d.gross.kg, tare := kg
            status := if kg < d.gross.kg then .accepted (cut (d.gross.kg - kg) d.inspection)
              (d.gross.kg - kg - cut (d.gross.kg - kg) d.inspection) else .rejected
            time := s.clock.reading } := congrArg (Option.map _) hd
      rw [State.captureTest_tare (s := s.stablePeriod b) hpresent hlow' hover' hx hpass (hticket _)]
      refine ⟨fun hlt => ?_, fun hle => ?_⟩
      · rw [if_pos hlt]
        rfl
      · rw [if_neg (Nat.not_lt.mpr hle)]
        rfl
  · intro s b p r count x hp hr hc hcal hx after
    have hstep : exec (.stableEnding b) s = .next (State.settleLink ((s.stablePeriod b).stepReading b count)) := by
      rw [exec_stable hp hr hc, State.stableEnding_calibrating (s := s.stablePeriod b) hcal]
    have hx' : ((s.stablePeriod b).channel b).session = some x := by rwa [State.stablePeriod_channel]
    have hafter (y : Session) : (s.stablePeriod b).modChannel b (fun c => { c with session := some y }) = after y := by
      rw [State.stablePeriod, State.modChannel_modChannel]
    rw [hstep]
    refine ⟨fun left h => ?_, fun mass left h => ?_, fun h => ?_⟩
    · simp only [State.stepReading, hx', h, hafter]
    · simp only [State.stepReading, hx', h, hafter]
    · simp only [State.stepReading, hx', h]
      refine congrArg (fun t : State => Host.Outcome.next t.settleLink) (State.modChannel_congr ?_)
      rw [hx]
  · intro s b p r count x cls g insp y hp hr hc hbound hx hpass hy stable
    rw [exec_stable_bound hp hr hc hbound]
    refine ⟨fun hpresent hlow hover => ?_, fun h => ?_⟩
    · rw [State.captureTest_gross (s := s.stablePeriod b) hpresent (by rwa [State.stablePeriod_channel])
          (by rwa [State.stablePeriod_channel]) hx hpass,
        State.grossCapture_eq (s := (s.stablePeriod b).captured b) (wish := false) rfl hy]
      rfl
    · rw [State.captureTest_failing (s := s.stablePeriod b) (by rwa [State.stablePeriod_channel])]
      rfl
  · intro s b p r count hp hr hc hidle hpresent hfits stable reason band
    have hzero : exec (.stableEnding b) s = .next (State.settleLink ((s.stablePeriod b).zeroCheck b r count)) := by
      rw [exec_stable hp hr hc, State.stableEnding_idle (s := s.stablePeriod b) hidle]
    have hband :
        ((s.stablePeriod b).channel b).active.zeroBand * ((s.stablePeriod b).channel b).active.division = band := by
      rw [State.stablePeriod_channel]
    rw [hzero]
    refine ⟨fun hreason hin hinput => ?_, fun hreason hout => ?_, fun hreason => ?_⟩
    · rw [State.zeroCheck_within (s := s.stablePeriod b) hpresent hreason (by rwa [hband])]
      let u := (s.stablePeriod b).takeZero b count
      let t := u.settleLink
      have ht : t = u.pump := u.settleLink_of_empty hinput
      have hbridge (c : BridgeNo) : t.bridge c = u.bridge c := by rw [ht, State.bridge, State.pump_bridges]; rfl
      have hchannel (c : BridgeNo) : t.channel c = u.channel c := by rw [ht, State.channel, State.pump_channels]; rfl
      refine ⟨t, rfl, ?_, ?_, ?_, fun c hcb => ?_, ?_⟩
      · exact (hbridge b).trans (State.takeZero_bridge (s := s.stablePeriod b) hfits)
      · rw [ht, State.pump_lines]
        exact State.takeZero_entryLamp (s := s.stablePeriod b) hidle
      · rw [hchannel, State.takeZero_channel, State.stablePeriod_channel]
        exact State.stablePeriod_channel.symm
      · obtain ⟨hb, hch⟩ := State.takeZero_ne (s := s.stablePeriod b) hcb count
        rw [hbridge, hchannel, hb, hch]
        exact ⟨rfl, State.stablePeriod_channel_ne hcb⟩
      · simp only [ht, State.pump_dt, State.pump_vehicles, State.pump_feed, State.pump_windows, State.pump_growers,
          State.pump_store, State.pump_shift, State.pump_clock, State.pump_pending]
        exact ⟨rfl, rfl, rfl, rfl, rfl, rfl, rfl, rfl, rfl⟩
    · rw [State.zeroCheck_outside (s := s.stablePeriod b) hpresent hreason (by rwa [hband])]
      rfl
    · rw [State.zeroCheck_unwanted (s := s.stablePeriod b) hreason]
      rfl

end Sys2Proof.Machine

/-! SUPPORT. The account of a cane pulse: what the OPEN window's cane still has to be booked as, through every step of the
pulse. -/
namespace Sys2Proof.Machine

open Sys2Proof

/-- A window holds `cane` kilograms, of which `left` are not yet attributed, folded or orphan (R34, R38). -/
def Window.Unbooked (cane left : Nat) (v : Window) : Prop :=
  v.cane = cane ∧ v.attributed + v.folded + v.orphan + left = cane

theorem Window.unbooked_zero_iff {v : Window} {cane : Nat} : v.Unbooked cane 0 ↔ v.cane = cane ∧ v.balanced :=
  and_congr_right fun h => by rw [Window.balanced, h, eq_comm, Nat.add_zero]

/-- A pulse that a balanced window has counted is all still to be booked (R34). -/
theorem Window.Unbooked.of_counted {v : Window} {kg : Nat} (h : v.balanced) (hfits : fits32 (v.cane + kg)) :
    Window.Unbooked (v.cane + kg) kg { v with cane := add32 v.cane kg } :=
  ⟨add32_fits hfits, congrArg (· + kg) h.symm⟩

/-- Each case of R36 books the debit's mass; the figure it goes to fits wherever the window's cane does. -/
theorem Window.Unbooked.credited {v : Window} {cane left kg : Nat} (h : v.Unbooked cane left) (hfits : fits32 cane)
    (hkg : kg ≤ left) (c : CreditCase) : Window.Unbooked cane (left - kg) (v.credited kg c) := by
  obtain ⟨hcane, hsum⟩ := h
  unfold fits32 at hfits
  refine ⟨by cases c <;> exact hcane, ?_⟩
  cases c with
  | last | appended =>
    have hattributed : add32 v.attributed kg = v.attributed + kg := add32_fits (by unfold fits32; omega)
    simp only [Window.credited, hattributed]
    omega
  | folded =>
    have hfolded : add32 v.folded kg = v.folded + kg := add32_fits (by unfold fits32; omega)
    simp only [Window.credited, hfolded]
    omega

/-- The leftover, booked as orphan mass, leaves nothing to book (R37). -/
theorem Window.Unbooked.orphaned {v : Window} {cane left : Nat} (h : v.Unbooked cane left) (hfits : fits32 cane) :
    Window.Unbooked cane 0 { v with orphan := add32 v.orphan left } := by
  obtain ⟨hcane, hsum⟩ := h
  unfold fits32 at hfits
  have horphan : add32 v.orphan left = v.orphan + left := add32_fits (by unfold fits32; omega)
  refine ⟨hcane, ?_⟩
  simp only [horphan]
  omega

/-- Window `n` has been opened and has so much cane, so much of it yet to book, and no frame waits at the port. -/
structure State.Unbooked (n cane left : Nat) (s : State) : Prop where
  input : s.link.input = []
  opened : n ≤ s.windows.counter
  window : ∃ v, s.window? n = some v ∧ v.Unbooked cane left

theorem State.input_of_beside {s t : State} (h : t.beside = s.beside) : t.link.input = s.link.input := by
  simp only [State.beside, Prod.mk.injEq] at h
  obtain ⟨-, -, -, -, -, -, -, -, hinput⟩ := h
  exact hinput

namespace State.Unbooked

section

variable {n cane left : Nat} {s : State} (h : s.Unbooked n cane left)

include h

/-! ## The updates of the state -/

theorem of_eq {t : State} (hinput : t.link.input = s.link.input) (hrecords : t.windows.records = s.windows.records)
    (hcounter : t.windows.counter = s.windows.counter) : t.Unbooked n cane left := by
  obtain ⟨hi, ho, hw⟩ := h
  exact ⟨hinput.trans hi, hcounter ▸ ho, by rwa [State.window?, hrecords]⟩

/-- A change of the window books what it books of the window's record. -/
theorem book {left' : Nat} {f : Window → Window} (hf : ∀ v, v.Unbooked cane left → (f v).Unbooked cane left') :
    (s.modWindow n f).Unbooked n cane left' := by
  obtain ⟨hi, ho, v, hv, hu⟩ := h
  exact ⟨hi, ho, f v, by rw [State.modWindow_window?, hv, Option.map_some], hf v hu⟩

/-- A change of any window's other figures leaves the account as it is. -/
theorem modWindow (m : Nat) (f : Window → Window)
    (hf : ∀ v, v.Unbooked cane left → (f v).Unbooked cane left := by exact fun _ hv => hv) :
    (s.modWindow m f).Unbooked n cane left := by
  by_cases hm : n = m
  · exact hm ▸ h.book hf
  · obtain ⟨hi, ho, hw⟩ := h
    exact ⟨hi, ho, by rwa [State.modWindow_window?_ne hm]⟩

theorem ite {c : Prop} [Decidable c] {t : State} (ht : t.Unbooked n cane left) :
    (if c then s else t).Unbooked n cane left := by
  split
  · exact h
  · exact ht

theorem tally (f : Accumulators → Accumulators) : (s.tally f).Unbooked n cane left := h.of_eq rfl rfl rfl

theorem raise (f : Flag) : (s.raise f).Unbooked n cane left := h.of_eq rfl rfl rfl

theorem notify (body : NoticeBody) : (s.notify body).Unbooked n cane left :=
  h.of_eq (s.notify_link_input body) (by rw [State.notify_windows]) (by rw [State.notify_windows])

theorem settleTest (m : Nat) : (s.settleTest m).Unbooked n cane left := by
  obtain ⟨-, hwindows, hlink⟩ := s.settleTest_keeps m
  exact h.of_eq (by rw [hlink]) (by rw [hwindows]) (by rw [hwindows])

theorem leaveFeed (m : Nat) : (s.leaveFeed m).Unbooked n cane left := h.of_eq rfl rfl rfl

theorem paced (kg : Nat) : (s.paced kg).Unbooked n cane left := h.of_eq rfl rfl rfl

/-! ## The sampler and the close of a window (R49, R50, R52, R55) -/

theorem voidWindow (m : Nat) (mark : Window → Window)
    (hmark : ∀ v, v.Unbooked cane left → (mark v).Unbooked cane left := by exact fun _ hv => hv) :
    (s.voidWindow m mark).Unbooked n cane left := by
  have hvoid : (s.markVoid m mark).Unbooked n cane left := h.modWindow _ _ hmark
  exact hvoid.of_eq (by rw [State.voidWindow, State.requestWindowRecord_link])
    (by rw [State.voidWindow, State.requestWindowRecord_windows])
    (by rw [State.voidWindow, State.requestWindowRecord_windows])

/-- The successor takes a number above every window opened so far (R48). -/
theorem openWindow (shift : Nat) : (s.openWindow shift).Unbooked n cane left := by
  obtain ⟨hi, ho, hw⟩ := h
  refine ⟨(State.input_of_beside (s.openWindow_beside shift)).trans hi, ?_, ?_⟩
  · rw [State.openWindow, State.reserve_windows]
    exact Nat.le_succ_of_le ho
  · rw [State.openWindow, State.window?, State.reserve_windows]
    rwa [Table.find_put_other _ _ (by omega)]

theorem closeWindow (shift : Nat) : (s.closeWindow shift).Unbooked n cane left := by
  unfold State.closeWindow
  extract_lets m time
  split
  · exact h
  · extract_lets s₁ s₂ s₃
    have h₁ : s₁.Unbooked n cane left := (h.voidWindow _ _).ite (h.modWindow _ _)
    have h₃ : s₃.Unbooked n cane left := (h₁.openWindow shift).tally _
    split
    · exact h₃.notify _
    · exact h₃

theorem extendWindow : s.extendWindow.Unbooked n cane left := by
  unfold State.extendWindow
  split
  · exact h
  · exact h.ite ((h.modWindow _ _).raise _)

theorem triggerClose (shift : Nat) : (s.triggerClose shift).Unbooked n cane left :=
  (h.closeWindow shift).ite h.extendWindow

theorem closeRetest : s.closeRetest.Unbooked n cane left := (h.closeWindow _).ite h

theorem targetTest : s.targetTest.Unbooked n cane left := by
  unfold State.targetTest
  split
  · exact h.closeRetest
  split
  · exact (h.triggerClose _).ite h
  · exact h

theorem samplerTest : s.samplerTest.Unbooked n cane left := by
  have hissued : (s.modWindow s.openNumber fun w => { w with commanded := add32 w.commanded 1 }).Unbooked n cane left :=
    h.modWindow _ _
  unfold State.samplerTest
  split
  · exact hissued.of_eq rfl rfl rfl
  · exact h

/-! ## The booking of a pulse (R34 to R37) -/

variable (hfits : fits32 cane)

include hfits

theorem debit {kg : Nat} (hkg : kg ≤ left) (m : Nat) (d : Delivery) : (s.debit m d n kg).Unbooked n cane (left - kg) := by
  refine State.Unbooked.book (s := s.modDelivery m _) ?_ fun _ hv => hv.credited hfits hkg _
  exact h.of_eq rfl rfl rfl

theorem orphan : (s.orphan n left).Unbooked n cane 0 := by
  by_cases hleft : left = 0
  · subst hleft
    exact h
  · rw [State.orphan, if_neg hleft]
    exact ((h.book fun _ hv => hv.orphaned hfits).tally _).raise _

omit h

/-- What the debits leave of the pulse is what is left to book, whatever entries the Feed Queue holds (R35). -/
theorem debits (ns : List Nat) (h : s.Unbooked n cane left) :
    let r := State.debits n ns left s
    r.2.Unbooked n cane r.1 := by
  induction ns generalizing left s with
  | nil => exact h
  | cons m rest ih =>
    rcases Nat.eq_zero_or_pos left with rfl | hpos
    · exact h
    · cases hd : s.delivery? m with
      | none =>
        rw [State.debits, if_neg (by omega)]
        simp only [hd]
        exact ih h
      | some d =>
        by_cases hlt : left < d.queueMass - d.crushed
        · rw [State.debits_whole hpos hd hlt]
          simpa only [Nat.sub_self] using h.debit hfits (Nat.le_refl left) m d
        · rw [State.debits_finish hpos hd (Nat.not_lt.mp hlt)]
          have hdebit := h.debit hfits (Nat.not_lt.mp hlt) m d
          exact ih ((hdebit.leaveFeed m).settleTest m)

end

/-- A pulse at a balanced OPEN window is booked to the last kilogram (R34). -/
theorem canePulse {s : State} {w : Window} {kg : Nat} (hinput : s.link.input = [])
    (hw : s.window? s.windows.counter = some w) (hbalanced : w.balanced) (hfits : fits32 (w.cane + kg)) :
    (s.canePulse kg).Unbooked s.windows.counter (w.cane + kg) 0 := by
  have hcaned : (s.caned kg).Unbooked s.windows.counter (w.cane + kg) kg :=
    ⟨hinput, Nat.le_refl _, _, (State.modWindow_window? _ _).trans (congrArg _ hw), .of_counted hbalanced hfits⟩
  rw [State.canePulse_of_debits rfl]
  exact (((debits hfits _ hcaned).orphan hfits).paced kg).samplerTest.targetTest

end State.Unbooked

/-- Settles O32: `State.Unbooked` starts with the whole pulse to book, and every step of the pulse keeps the account until
nothing is left of it. -/
theorem canePulsesAreAccountedForInFull : Obligations.CanePulsesAreAccountedForInFull := by
  intro s w hedge hw hbalanced hfits hinput
  obtain ⟨hempty, -, v, hv, hu⟩ :=
    State.Unbooked.canePulse (s := s.levelTaken .cp) (kg := s.lines.cpMass) hinput hw hbalanced hfits
  refine ⟨_, v, exec_cane_edge hedge, ?_, Window.unbooked_zero_iff.mp hu⟩
  rw [State.settleLink_of_empty _ hempty, State.window?, State.pump_windows]
  exact hv

end Sys2Proof.Machine

/-! SUPPORT. The window table: which operations leave it alone, and that every operation keeps exactly one window
OPEN. -/
namespace Sys2Proof.Machine

open Sys2Proof

section

variable (s : State)

/-! ## What leaves the window table alone -/

/-! ### Settlement and deliveries -/

@[simp] theorem State.settleTest_windows (n : Nat) : (s.settleTest n).windows = s.windows := (s.settleTest_keeps n).2.1

@[simp] theorem State.leaveFeed_windows (n : Nat) : (s.leaveFeed n).windows = s.windows := rfl

@[simp] theorem State.net_windows (n : Nat) (x : Netting) : (s.net n x).windows = s.windows := by
  unfold State.net; dsimp only; repeat' split
  all_goals simp

@[simp] theorem State.grossCapture_windows (b : BridgeNo) (vehicle cls grower inspection : Nat) (wish : Bool)
    (kg : Nat) : (s.grossCapture b vehicle cls grower inspection wish kg).1.windows = s.windows := by
  unfold State.grossCapture; dsimp only; repeat' split
  all_goals simp

@[simp] theorem State.grossComplete_windows (sequence : Nat) (t : GrossTicket) :
    (s.grossComplete sequence t).windows = s.windows := by
  simp [State.grossComplete]

@[simp] theorem State.tareComplete_windows (sequence : Nat) (t : TareTicket) :
    (s.tareComplete sequence t).windows = s.windows := by
  unfold State.tareComplete; dsimp only; repeat' split
  all_goals simp

@[simp] theorem State.storedComplete_windows (sequence : Nat) (t : TareTicket) :
    (s.storedComplete sequence t).windows = s.windows := by
  unfold State.storedComplete; dsimp only; repeat' split
  all_goals simp

@[simp] theorem State.voidComplete_windows (sequence : Nat) (v : VoidBody) :
    (s.voidComplete sequence v).windows = s.windows := by
  simp [State.voidComplete]

/-! ### Bridges -/

@[simp] theorem State.endPeriod_windows (b : BridgeNo) : (s.endPeriod b).windows = s.windows := rfl

@[simp] theorem State.ceased_windows (b : BridgeNo) (cause : LockCause) : (s.ceased b cause).windows = s.windows := by
  unfold State.ceased; repeat' split
  all_goals simp

@[simp] theorem State.setRange_windows (b : BridgeNo) (k : RangeKind) (v : Bool) :
    (s.setRange b k v).windows = s.windows := by
  unfold State.setRange; dsimp only; repeat' split
  all_goals simp

@[simp] theorem State.restartTimers_windows (b : BridgeNo) : (s.restartTimers b).windows = s.windows := rfl

@[simp] theorem State.discardBinding_windows (b : BridgeNo) : (s.discardBinding b).windows = s.windows := by
  unfold State.discardBinding; dsimp only; repeat' split
  all_goals simp

@[simp] theorem State.arise_windows (b : BridgeNo) (cause : LockCause) : (s.arise b cause).windows = s.windows := by
  unfold State.arise; repeat' split
  all_goals simp

@[simp] theorem State.setZero_windows (b : BridgeNo) (zero : Int) : (s.setZero b zero).windows = s.windows := rfl

@[simp] theorem State.emptyMean_windows (b : BridgeNo) : (s.emptyMean b).windows = s.windows := by
  simp [State.emptyMean]

@[simp] theorem State.judgePresence_windows (b : BridgeNo) : (s.judgePresence b).windows = s.windows := by
  unfold State.judgePresence; repeat' split
  all_goals simp

@[simp] theorem State.applyConfig_windows (b : BridgeNo) (wasHeld : Bool) :
    (s.applyConfig b wasHeld).windows = s.windows := by
  unfold State.applyConfig
  split
  · rfl
  · simp [apply_ite State.windows]

@[simp] theorem State.goIdle_windows (b : BridgeNo) : (s.goIdle b).windows = s.windows := by
  unfold State.goIdle; dsimp only; repeat' split
  all_goals simp

@[simp] theorem State.judgeAbsent_windows (b : BridgeNo) : (s.judgeAbsent b).windows = s.windows := by
  unfold State.judgeAbsent; dsimp only; repeat' split
  all_goals simp

@[simp] theorem State.rearmZero_windows (b : BridgeNo) : (s.rearmZero b).windows = s.windows := rfl

@[simp] theorem State.takeZero_windows (b : BridgeNo) (zero : Int) : (s.takeZero b zero).windows = s.windows := rfl

@[simp] theorem State.zeroMinute_windows (b : BridgeNo) : (s.zeroMinute b).windows = s.windows := by
  unfold State.zeroMinute; repeat' split
  all_goals simp

@[simp] theorem State.zeroCheck_windows (b : BridgeNo) (reading count : Int) :
    (s.zeroCheck b reading count).windows = s.windows := by
  unfold State.zeroCheck; dsimp only; repeat' split
  all_goals simp

@[simp] theorem State.captureTest_windows (b : BridgeNo) (reading : Int) :
    (s.captureTest b reading).windows = s.windows := by
  unfold State.captureTest; dsimp only; repeat' split
  all_goals simp

@[simp] theorem State.leaveCapture_windows (b : BridgeNo) : (s.leaveCapture b).windows = s.windows := by
  unfold State.leaveCapture; dsimp only; repeat' split
  all_goals simp

@[simp] theorem State.bindExpired_windows (b : BridgeNo) : (s.bindExpired b).windows = s.windows := by
  unfold State.bindExpired; repeat' split
  all_goals simp

@[simp] theorem State.persistenceExpired_windows (b : BridgeNo) (k : RangeKind) :
    (s.persistenceExpired b k).windows = s.windows := by
  unfold State.persistenceExpired; repeat' split
  all_goals simp

@[simp] theorem State.clearHoldExpired_windows (b : BridgeNo) : (s.clearHoldExpired b).windows = s.windows := by
  unfold State.clearHoldExpired; repeat' split
  all_goals simp

@[simp] theorem State.bindBridge_windows (b : BridgeNo) (x : Binding) : (s.bindBridge b x).windows = s.windows := rfl

/-! ### Channels -/

@[simp] theorem State.endSession_windows (b : BridgeNo) : (s.endSession b).windows = s.windows := by
  unfold State.endSession; dsimp only; repeat' split
  all_goals simp

@[simp] theorem State.stepReading_windows (b : BridgeNo) (count : Int) :
    (s.stepReading b count).windows = s.windows := by
  unfold State.stepReading; repeat' split
  all_goals simp

@[simp] theorem State.stepTimeout_windows (b : BridgeNo) : (s.stepTimeout b).windows = s.windows := by
  unfold State.stepTimeout; repeat' split
  all_goals simp

@[simp] theorem State.sessionTimeout_windows (b : BridgeNo) : (s.sessionTimeout b).windows = s.windows := by
  unfold State.sessionTimeout; repeat' split
  all_goals simp

@[simp] theorem State.sessionComplete_windows (b : BridgeNo) (body : CalBody) :
    (s.sessionComplete b body).windows = s.windows := by
  unfold State.sessionComplete; dsimp only; repeat' split
  all_goals simp

@[simp] theorem State.wireOffBridge_windows (b : BridgeNo) : (s.wireOffBridge b).windows = s.windows := by
  unfold State.wireOffBridge; dsimp only; repeat' split
  all_goals simp

@[simp] theorem State.raiseWireOff_windows (b : BridgeNo) : (s.raiseWireOff b).windows = s.windows := by
  simp [State.raiseWireOff]

@[simp] theorem State.clearWireOff_windows (b : BridgeNo) : (s.clearWireOff b).windows = s.windows := by
  simp [State.clearWireOff]

@[simp] theorem State.stableEnding_windows (b : BridgeNo) (reading count : Int) :
    (s.stableEnding b reading count).windows = s.windows := by
  unfold State.stableEnding; repeat' split
  all_goals simp

@[simp] theorem State.stability_windows (b : BridgeNo) (reading count : Int) :
    (s.stability b reading count).windows = s.windows := by
  unfold State.stability; dsimp only; repeat' split
  all_goals simp

@[simp] theorem State.takeReading_windows (b : BridgeNo) (filtered : Int) :
    (s.takeReading b filtered).windows = s.windows := by
  unfold State.takeReading; dsimp only; repeat' split
  all_goals simp

@[simp] theorem State.joinMean_windows (b : BridgeNo) (count : Int) : (s.joinMean b count).windows = s.windows := by
  unfold State.joinMean; dsimp only; repeat' split
  all_goals simp

@[simp] theorem State.convert_windows (b : BridgeNo) (count : Int) (agree : Bool) :
    (s.convert b count agree).windows = s.windows := by
  unfold State.convert; dsimp only; repeat' split
  all_goals simp

@[simp] theorem State.periodStable_windows (b : BridgeNo) : (s.periodStable b).windows = s.windows := by
  unfold State.periodStable; dsimp only; repeat' split
  all_goals simp

@[simp] theorem State.wireOffRun_windows (b : BridgeNo) : (s.wireOffRun b).windows = s.windows := by
  unfold State.wireOffRun; repeat' split
  all_goals simp

@[simp] theorem State.wireClearRun_windows (b : BridgeNo) : (s.wireClearRun b).windows = s.windows := by
  unfold State.wireClearRun; repeat' split
  all_goals simp

@[simp] theorem State.enterCalibrating_windows (b : BridgeNo) (entry : EntryState) :
    (s.enterCalibrating b entry).windows = s.windows := rfl

@[simp] theorem State.beginStep_windows (b : BridgeNo) (x : Session) : (s.beginStep b x).windows = s.windows := rfl

/-! ### Lines -/

@[simp] theorem State.setInputSettings_windows (line : InputLine) (es : List (Nat × Nat)) :
    (s.setInputSettings line es).windows = s.windows := by
  unfold State.setInputSettings; dsimp only; repeat' split
  all_goals simp

@[simp] theorem State.lineSetLamp_windows (entry : Bool) (b : BridgeNo) (es : List (Nat × Nat)) :
    (s.lineSetLamp entry b es).windows = s.windows := by
  unfold State.lineSetLamp; dsimp only; repeat' split
  all_goals simp

/-! ### Shifts and seasons -/

@[simp] theorem State.shiftComplete_windows (sequence : Nat) (body : ShiftBody) :
    (s.shiftComplete sequence body).windows = s.windows := by
  simp [State.shiftComplete]

@[simp] theorem State.seasonComplete_windows : s.seasonComplete.windows = s.windows := rfl

/-! ### Records -/

theorem State.ticketDone_windows (b : BridgeNo) {complete : State → State}
    (h : ∀ s, (complete s).windows = s.windows) : (s.ticketDone b complete).windows = s.windows := by
  simp [State.ticketDone, h]

@[simp] theorem State.markBad_windows (slot : Nat) : (s.markBad slot).windows = s.windows := rfl

@[simp] theorem State.failVerify_windows : s.failVerify.windows = s.windows := by
  unfold State.failVerify; dsimp only; repeat' split
  all_goals simp

/-! ### The minute -/

@[simp] theorem State.clockMinute_windows : s.clockMinute.windows = s.windows := by
  unfold State.clockMinute; repeat' split
  all_goals simp

/-! ### Decisions of requests -/

@[simp] theorem State.calAbandon_windows (b : BridgeNo) : ((s.calAbandon b).after s).windows = s.windows := by
  simp [State.calAbandon]

@[simp] theorem State.calCommit_windows (b : BridgeNo) (x : Session) (zero span : Int) (mass : Nat) :
    ((s.calCommit b x zero span mass).after s).windows = s.windows := by
  unfold State.calCommit; dsimp only; split <;> simp

/-- The requests whose owners may change a window's record or open a window. -/
def Request.atWindows : Request → Bool
  | .tip _ | .sampleClose _ | .sampleResult _ _ _ | .sampleVoid _ | .shiftMark _ | .seasonOpen | .lineSet _ _ => true
  | _ => false

theorem decideRequest_windows {q : Request} (h : q.atWindows = false) (tag : Byte) :
    ((decideRequest q tag s).after s).windows = s.windows := by
  cases q
  case tip | sampleClose | sampleResult | sampleVoid | shiftMark | seasonOpen | lineSet => exact nomatch h
  all_goals
    simp only [decideRequest, decideStatus, decideAttention, decideLinkSet, decideTimeSet, decideReportStart,
      decideReportStop, decideBind, decideUnbind, decideBridgeQuery, decideClearFault, decideZeroNow, decideVoid,
      decideNetFromStored, decideDeliveryQuery, decideVehicleSet, decideVehicleDrop, decideGrowerSet, decideGrowerDrop,
      decideGrowerQuery, decideWindowQuery, decideProfileLoad, decideProfileRead, decideConfigOpen, decideConfigSet,
      decideConfigApply, decideConfigDiscard, decideCalBegin, decideCalZero, decideCalSpan, decideCalEnd,
      decideCalDefault, decideStoreRead, decideExportMark]
    repeat' split
  all_goals simp

/-! ### The link -/

@[simp] theorem State.answer_windows (kind tag : Byte) (d : Decision) :
    (s.answer kind tag d).windows = (d.after s).windows := by rw [State.answer_eq]

@[simp] theorem State.endFrame_windows : s.endFrame.windows = s.windows := by
  unfold State.endFrame; dsimp only; repeat' split
  all_goals simp

@[simp] theorem State.receiveFrame_windows (f : Frame) : (s.receiveFrame f).windows = s.windows := by
  unfold State.receiveFrame; dsimp only; repeat' split
  all_goals simp

@[simp] theorem State.gap_windows : s.gap.windows = s.windows := rfl

end

/-! ## One OPEN window -/

theorem State.not_opened_of_deadlinePassed {s : State} {w : Window} (h : s.deadlinePassed w = true) :
    w.state ≠ .opened := by
  intro hw
  rw [State.deadlinePassed_of_not_closed (by simp [hw])] at h
  cases h

theorem Window.not_opened_of_settled {w : Window} (h : w.settled = true) : w.state ≠ .opened := by
  intro hw
  simp [Window.settled, hw] at h

/-- A SETTLE record's posting up to the releases: the grower's account and the shift's figures, one reference fewer on
each window of the parts, and the delivery freed (R81, steps 2 to 4). -/
def State.posted (s : State) (sequence : Nat) (b : SettleBody) : State :=
  let t := (s.modGrower b.record.grower fun g => g.post b.figures b.netting.net sequence).tally fun a => { a with
    net := a.net.plus b.netting.net, payable := a.payable.plus b.figures.payable, deliveries := a.deliveries.plus 1 }
  let u := (partWindows b.record.parts).foldl State.dropReference t
  { u with dt := { u.dt with records := u.dt.records.drop b.delivery } }

theorem State.settleComplete_eq (s : State) (sequence : Nat) (b : SettleBody) :
    s.settleComplete sequence b =
      ((partWindows b.record.parts).foldl State.releaseTest (s.posted sequence b)).notify (.settled sequence b) := rfl

/-- The table with a window freed (R65). -/
def State.withoutWindow (s : State) (n : Nat) : State :=
  { s with windows := { s.windows with records := s.windows.records.drop n } }

theorem State.withoutWindow_window? (s : State) (n m : Nat) :
    (s.withoutWindow n).window? m = if m = n then none else s.window? m := Table.find_drop _ _ _

theorem State.openWindow_counter (s : State) (shift : Nat) :
    (s.openWindow shift).windows.counter = s.windows.counter + 1 := by
  simp [State.openWindow]

theorem State.openWindow_window? (s : State) (shift m : Nat) : (s.openWindow shift).window? m =
    if m = s.windows.counter + 1 then some (Window.fresh shift s.now) else s.window? m := by
  rw [State.openWindow, State.window?, State.reserve_windows]
  exact Table.find_put _ _ _ _

theorem State.window?_of_modWindow {s : State} {n m : Nat} {f : Window → Window} {v : Window}
    (h : (s.modWindow n f).window? m = some v) : ∃ w, s.window? m = some w ∧ v = if m = n then f w else w := by
  by_cases hm : m = n
  · subst hm
    rw [State.modWindow_window?, Option.map_eq_some_iff] at h
    obtain ⟨w, hw, rfl⟩ := h
    exact ⟨w, hw, (if_pos rfl).symm⟩
  · rw [State.modWindow_window?_ne hm] at h
    exact ⟨v, h, (if_neg hm).symm⟩

/-- No window is OPEN, and none has a number above the counter: how the table stands between a close and the opening
of the successor (R48, R49). -/
def State.noOpenWindow (s : State) : Prop :=
  ∀ n w, s.window? n = some w → n ≤ s.windows.counter ∧ w.state ≠ .opened

/-- The window that opens is the one OPEN window, and takes a number above every other (R47, R48). -/
theorem State.noOpenWindow.openWindow {s : State} (h : s.noOpenWindow) (shift : Nat) :
    (s.openWindow shift).oneOpenWindow := by
  have hcounter := s.openWindow_counter shift
  refine ⟨⟨_, by rw [hcounter, State.openWindow_window?, if_pos rfl], rfl⟩, fun n w hw => ?_⟩
  rw [State.openWindow_window?] at hw
  rw [hcounter]
  split at hw
  · next hn => exact ⟨hn.le, fun _ => hn⟩
  · obtain ⟨hle, hstate⟩ := h n w hw
    exact ⟨Nat.le_succ_of_le hle, fun hopen => absurd hopen hstate⟩

namespace State.oneOpenWindow

section

variable {s : State} (h : s.oneOpenWindow)

include h

/-! ### Changes of the window table -/

theorem of_eq {t : State} (hr : t.windows.records = s.windows.records) (hc : t.windows.counter = s.windows.counter) :
    t.oneOpenWindow := by
  unfold State.oneOpenWindow State.window? at *
  rwa [hr, hc]

theorem of_windows {t : State} (ht : t.windows = s.windows) : t.oneOpenWindow := h.of_eq (by rw [ht]) (by rw [ht])

theorem ite {c : Prop} [Decidable c] {t : State} (ht : t.oneOpenWindow) : (if c then s else t).oneOpenWindow := by
  split
  · exact h
  · exact ht

/-- A change of a window's record that leaves it OPEN if it was, and only then. -/
theorem modWindow (n : Nat) (f : Window → Window)
    (hf : ∀ w, s.window? n = some w → ((f w).state = .opened ↔ w.state = .opened) := by exact fun _ _ => Iff.rfl) :
    (s.modWindow n f).oneOpenWindow := by
  obtain ⟨⟨o, ho, hopen⟩, hall⟩ := h
  refine ⟨?_, fun m v hv => ?_⟩
  · show ∃ w, (s.modWindow n f).window? s.windows.counter = some w ∧ w.state = .opened
    by_cases hn : s.windows.counter = n
    · subst hn
      exact ⟨f o, (State.modWindow_window? _ f).trans (congrArg _ ho), (hf o ho).mpr hopen⟩
    · exact ⟨o, (State.modWindow_window?_ne hn f).trans ho, hopen⟩
  · show m ≤ s.windows.counter ∧ (v.state = .opened → m = s.windows.counter)
    obtain ⟨w, hw, rfl⟩ := State.window?_of_modWindow hv
    split
    · next hm =>
      subst hm
      rw [hf w hw]
      exact hall m w hw
    · exact hall m w hw

/-- A window that is OPEN no more leaves none OPEN. -/
theorem shut {f : Window → Window} (hf : ∀ w, (f w).state ≠ .opened) : (s.modWindow s.openNumber f).noOpenWindow := by
  intro m v hv
  obtain ⟨-, hall⟩ := h
  obtain ⟨w, hw, rfl⟩ := State.window?_of_modWindow hv
  obtain ⟨hle, hopen⟩ := hall m w hw
  split
  · exact ⟨hle, hf w⟩
  · next hm => exact ⟨hle, fun hw => hm (hopen hw)⟩

/-- A window that is not OPEN may be freed. -/
theorem withoutWindow {n : Nat} {w : Window} (hw : s.window? n = some w) (hstate : w.state ≠ .opened) :
    (s.withoutWindow n).oneOpenWindow := by
  obtain ⟨⟨o, ho, hopen⟩, hall⟩ := h
  refine ⟨⟨o, ?_, hopen⟩, fun m v hv => ?_⟩
  · have hn : s.windows.counter ≠ n := by
      rintro rfl
      exact hstate (Option.some.inj (hw.symm.trans ho) ▸ hopen)
    rw [State.withoutWindow_window?]
    exact (if_neg hn).trans ho
  · rw [State.withoutWindow_window?] at hv
    split at hv
    · cases hv
    · exact hall m v hv

theorem foldl {α : Type} {f : State → α → State} (hf : ∀ {u : State} a, u.oneOpenWindow → (f u a).oneOpenWindow)
    (l : List α) : (l.foldl f s).oneOpenWindow :=
  List.foldlRecOn (motive := State.oneOpenWindow) l f h fun _ hu a _ => hf a hu

/-! ### Windows and the sampler -/

theorem raise (f : Flag) : (s.raise f).oneOpenWindow := h.of_windows rfl

theorem tally (f : Accumulators → Accumulators) : (s.tally f).oneOpenWindow := h.of_windows rfl

theorem notify (body : NoticeBody) : (s.notify body).oneOpenWindow := h.of_windows (by simp)

/-- Only a window that is not OPEN is voided in its place. -/
theorem markVoid {n : Nat} {w : Window} (hw : s.window? n = some w) (hstate : w.state ≠ .opened)
    (mark : Window → Window) : (s.markVoid n mark).oneOpenWindow := by
  refine h.modWindow _ _ fun v hv => ?_
  obtain rfl := Option.some.inj (hw.symm.trans hv)
  exact iff_of_false nofun hstate

theorem voidWindow {n : Nat} {w : Window} (hw : s.window? n = some w) (hstate : w.state ≠ .opened)
    (mark : Window → Window) : (s.voidWindow n mark).oneOpenWindow :=
  (h.markVoid hw hstate mark).of_windows (by simp [State.voidWindow])

/-- A close ends in the opening of the successor (R48, R49). -/
theorem closeWindow (shift : Nat) : (s.closeWindow shift).oneOpenWindow := by
  unfold State.closeWindow
  extract_lets n time
  split
  · exact h
  · next w _ =>
    extract_lets s₁ s₂ s₃
    have h₁ : s₁.noOpenWindow := by
      unfold s₁
      split
      · have hvoid : (s.markVoid n fun w => { w with closedAt := some time, noStrokes := true }).noOpenWindow :=
          h.shut fun _ => nofun
        unfold State.voidWindow State.noOpenWindow State.window?
        rw [State.requestWindowRecord_windows]
        exact hvoid
      · exact h.shut fun _ => nofun
    have h₃ : s₃.oneOpenWindow := (h₁.openWindow shift).tally _
    split
    · exact h₃.notify _
    · exact h₃

theorem extendWindow : s.extendWindow.oneOpenWindow := by
  unfold State.extendWindow
  split
  · exact h
  · exact h.ite ((h.modWindow _ _).raise _)

theorem triggerClose (shift : Nat) : (s.triggerClose shift).oneOpenWindow := (h.closeWindow shift).ite h.extendWindow

theorem closeRetest : s.closeRetest.oneOpenWindow := (h.closeWindow _).ite h

theorem targetTest : s.targetTest.oneOpenWindow := by
  refine h.closeRetest.ite ?_
  split
  · exact (h.triggerClose _).ite h
  · exact h

theorem durationTest : s.durationTest.oneOpenWindow := by
  refine h.closeRetest.ite ?_
  split
  · exact (h.triggerClose _).ite h
  · exact h

theorem samplerTest : s.samplerTest.oneOpenWindow := by
  unfold State.samplerTest
  split
  · exact of_eq (h.modWindow s.openNumber fun w => { w with commanded := add32 w.commanded 1 }) rfl rfl
  · exact h

theorem strokeSeen (n : Nat) : (s.strokeSeen n).oneOpenWindow :=
  h.modWindow _ _ fun w _ => by cases hw : w.state <;> simp [hw]

theorem strokeMissed (n : Nat) : (s.strokeMissed n).oneOpenWindow := by
  have hr : (s.raise .samplerMiss).oneOpenWindow := h.raise _
  unfold State.strokeMissed
  extract_lets s₁
  split
  · exact hr
  · next w hw =>
    split
    · exact hr.modWindow _ _
    · next hclosed => exact (hr.voidWindow hw (by simp [hclosed]) _).ite (hr.modWindow _ _)
    · exact hr
    · exact hr

theorem endCommand : s.endCommand.oneOpenWindow := h.of_windows rfl

theorem strokeEdge : s.strokeEdge.oneOpenWindow := by
  unfold State.strokeEdge
  split
  · exact h
  · exact (h.endCommand.strokeSeen _).samplerTest

theorem confirmExpired : s.confirmExpired.oneOpenWindow := by
  unfold State.confirmExpired
  split
  · exact h
  · exact (h.endCommand.strokeMissed _).samplerTest

theorem juicePulse (kg : Nat) : (s.juicePulse kg).oneOpenWindow := (h.modWindow _ _).tally _

theorem waterPulse (kg : Nat) : (s.waterPulse kg).oneOpenWindow := (h.modWindow _ _).tally _

theorem expireWindow (n : Nat) : (s.expireWindow n).oneOpenWindow := by
  unfold State.expireWindow
  split
  · exact h
  · next w hw =>
    split
    · next hdue => exact (h.raise _).voidWindow hw (State.not_opened_of_deadlinePassed hdue) _
    · exact h

theorem expireWindows : s.expireWindows.oneOpenWindow := h.foldl (fun n hu => hu.expireWindow n) _

theorem releaseTest (n : Nat) : (s.releaseTest n).oneOpenWindow := by
  unfold State.releaseTest
  split
  · exact h
  · next w hw =>
    split
    · next hdone =>
      rw [Bool.and_eq_true] at hdone
      exact (h.withoutWindow hw (Window.not_opened_of_settled hdone.1)).closeRetest
    · exact h

/-! ### Settlement and the feed -/

theorem dropReference (n : Nat) : (s.dropReference n).oneOpenWindow := h.modWindow _ _

theorem posted (sequence : Nat) (b : SettleBody) : (s.posted sequence b).oneOpenWindow := by
  have hg : (s.modGrower b.record.grower fun g => g.post b.figures b.netting.net sequence).oneOpenWindow :=
    h.of_windows rfl
  exact of_windows (foldl (hg.tally _) (fun n hu => hu.dropReference n) (partWindows b.record.parts)) rfl

theorem settleComplete (sequence : Nat) (b : SettleBody) : (s.settleComplete sequence b).oneOpenWindow := by
  rw [State.settleComplete_eq]
  exact notify (foldl (h.posted sequence b) (fun n hu => hu.releaseTest n) _) _

theorem settleTest (n : Nat) : (s.settleTest n).oneOpenWindow := h.of_windows (by simp)

theorem debit (n : Nat) (d : Delivery) (w kg : Nat) : (s.debit n d w kg).oneOpenWindow := by
  have hd : (s.modDelivery n fun d' => { d' with
      crushed := d'.crushed + kg, parts := (creditParts d.parts w kg).2
      folded := d'.folded || (creditParts d.parts w kg).1 == .folded }).oneOpenWindow := h.of_windows rfl
  refine hd.modWindow w _ fun v _ => ?_
  cases (creditParts d.parts w kg).1 <;> exact Iff.rfl

theorem leaveFeed (n : Nat) : (s.leaveFeed n).oneOpenWindow := h.of_windows rfl

omit h in
theorem debits (w : Nat) (ns : List Nat) : ∀ (kg : Nat) {s : State}, s.oneOpenWindow →
    (State.debits w ns kg s).2.oneOpenWindow := by
  induction ns with
  | nil => exact fun _ _ h => h
  | cons n rest ih =>
    intro kg s h
    unfold State.debits
    split
    · exact h
    · split
      · exact ih _ h
      · extract_lets remainder
        split
        · exact h.debit _ _ _ _
        · exact ih _ (((h.debit _ _ _ _).leaveFeed n).settleTest n)

theorem orphan (w kg : Nat) : (s.orphan w kg).oneOpenWindow := h.ite (((h.modWindow _ _).tally _).raise _)

theorem canePulse (kg : Nat) : (s.canePulse kg).oneOpenWindow := by
  have hcaned : (s.caned kg).oneOpenWindow := (h.modWindow _ _).tally _
  rw [State.canePulse_of_debits rfl]
  exact targetTest (samplerTest (of_eq ((debits _ _ _ hcaned).orphan _ _) rfl rfl))

/-! ### Lines -/

theorem deliverLevel (line : InputLine) : (s.deliverLevel line).oneOpenWindow := by
  cases line with
  | e b => exact h.of_windows (s.judgePresence_windows b)
  | x b => exact h.of_windows (s.judgePresence_windows b)
  | tr => exact h.samplerTest.ite h
  | cp | jp | wp | ss => exact h

theorem deliverEdge (line : InputLine) : (s.deliverEdge line).oneOpenWindow := by
  cases line with
  | cp => exact h.canePulse _
  | jp => exact h.juicePulse _
  | wp => exact h.waterPulse _
  | ss => exact h.strokeEdge
  | e | x | tr => exact h

theorem takeLevel (line : InputLine) : (s.takeLevel line).oneOpenWindow := by
  have hl {i : Input} : ((s.setInput line i).deliverLevel line).oneOpenWindow :=
    deliverLevel (h.of_windows (by rfl)) line
  exact ite (hl.deliverEdge _) hl

theorem holdExpired (line : InputLine) : (s.holdExpired line).oneOpenWindow := (h.takeLevel _).ite h

theorem lineSetInput (line : InputLine) (es : List (Nat × Nat)) : (s.lineSetInput line es).oneOpenWindow := by
  have hset : (s.setInputSettings line es).oneOpenWindow := h.of_windows (by simp)
  have htold := (hset.deliverLevel line).ite (c := ((s.setInputSettings line es).lines.input line).polarity ≠
    (s.lines.input line).polarity ∧ (s.lines.input line).filtered.isSome = true) hset
  rcases s.lineSetInput_cases line es with ht | ⟨ht, -⟩
  · rw [ht]; exact htold
  · rw [ht]; exact htold.takeLevel line

theorem lineSet (x : LineTarget) (es : List (Nat × Nat)) : (s.lineSet x es).oneOpenWindow := by
  unfold State.lineSet
  split
  · exact h.lineSetInput _ _
  all_goals exact h.of_windows (by simp)

/-! ### Records and the minute -/

theorem windowComplete (sequence n : Nat) : (s.windowComplete sequence n).oneOpenWindow := by
  unfold State.windowComplete
  extract_lets s₁ s₂
  have h₁ : s₁.oneOpenWindow := h.modWindow _ _
  have h₂ : s₂.oneOpenWindow := by
    unfold s₂
    split
    · exact h₁.notify _
    · exact h₁
  exact (h₂.foldl (fun m hu => hu.settleTest m) _).releaseTest n

theorem requesterComplete (sequence : Nat) (x : WriteRequest) : (s.requesterComplete sequence x).oneOpenWindow := by
  unfold State.requesterComplete
  split
  case h_5 => exact h.settleComplete _ _
  case h_6 => exact h.windowComplete _ _
  all_goals exact h.of_windows (by simp [State.ticketDone_windows])

theorem completeWrite : s.completeWrite.oneOpenWindow := by
  unfold State.completeWrite
  split
  · exact h
  · split
    · exact h
    · next f _ =>
      have hr : (s.recorded f).oneOpenWindow := h.of_windows rfl
      exact of_windows (hr.requesterComplete f.record.sequence f.request) (State.startNext_windows _)

theorem countMinute : s.countMinute.oneOpenWindow := (h.modWindow _ _).ite (h.tally _)

theorem minute : s.minute.oneOpenWindow := by
  have hm : State.oneOpenWindow { s with clock := { s.clock with minutes := add32 s.clock.minutes 1 } } :=
    h.of_windows rfl
  have hc := (hm.countMinute).durationTest.expireWindows
  exact of_windows (hc.foldl (fun b hu => hu.of_windows (State.zeroMinute_windows _ b)) bridgeList)
    (State.clockMinute_windows _)

/-! ### Decisions of requests -/

theorem decideTip (n : Nat) : ((decideTip n s).after s).oneOpenWindow := by
  unfold Machine.decideTip
  dsimp only
  repeat' split
  all_goals try exact h
  exact settleTest (modWindow (h.of_windows (by rfl)) _ _) n

theorem decideSampleClose (n : Nat) : ((decideSampleClose n s).after s).oneOpenWindow := by
  unfold Machine.decideSampleClose
  dsimp only
  repeat' split
  all_goals try exact h
  exact h.closeWindow _

/-- Only a CLOSED window takes a result (R59). -/
theorem decideSampleResult (n brix pol : Nat) : ((decideSampleResult n brix pol s).after s).oneOpenWindow := by
  unfold Machine.decideSampleResult
  dsimp only
  repeat' split
  all_goals try exact h
  next w hw _ hclosed =>
  have h₁ : (s.modWindow n fun w => { w with state := .resulted, quality := some ⟨brix, pol⟩ }).oneOpenWindow := by
    refine h.modWindow _ _ fun v hv => ?_
    obtain rfl := Option.some.inj (hw.symm.trans hv)
    exact iff_of_false nofun (by simp [hclosed])
  exact of_eq h₁ (by simp) (by simp)

/-- Only a CLOSED window is voided on request (R61). -/
theorem decideSampleVoid (n : Nat) : ((decideSampleVoid n s).after s).oneOpenWindow := by
  unfold Machine.decideSampleVoid
  repeat' split
  all_goals try exact h
  next w hw _ hclosed => exact h.voidWindow hw (by simp [hclosed]) _

theorem decideShiftMark (letter : Nat) : ((decideShiftMark letter s).after s).oneOpenWindow := by
  unfold Machine.decideShiftMark
  dsimp only
  repeat' split
  all_goals try exact h
  have hr : (s.reserve 1).oneOpenWindow := h.of_windows (by simp)
  refine of_windows (of_eq (hr.triggerClose (add32 s.shift.number 1)) ?_ ?_) (State.requestWrite_windows _ _ _)
  all_goals rfl

omit h in
/-- SEASON OPEN discards every window and opens window 1 (R166). -/
theorem seasonWindows (s : State) : s.seasonWindows.oneOpenWindow := by
  refine State.noOpenWindow.openWindow ?_ 1
  intro n w hw
  cases hw

theorem decideSeasonOpen : ((decideSeasonOpen s).after s).oneOpenWindow := by
  unfold Machine.decideSeasonOpen
  split
  · exact h
  · exact of_windows (seasonWindows (s.reserve 1)) (State.requestWrite_windows _ _ _)

theorem decideLineSet (line : Nat) (es : List (Nat × Nat)) : ((decideLineSet line es s).after s).oneOpenWindow := by
  unfold Machine.decideLineSet
  dsimp only
  repeat' split
  all_goals try exact h
  exact h.lineSet _ _

/-- No owner's decision ends with another number of OPEN windows. -/
theorem decideRequest (q : Request) (tag : Byte) : ((decideRequest q tag s).after s).oneOpenWindow := by
  cases hq : q.atWindows with
  | false => exact h.of_windows (decideRequest_windows s hq tag)
  | true =>
    cases q with
    | tip _ => exact h.decideTip _
    | sampleClose _ => exact h.decideSampleClose _
    | sampleResult _ _ _ => exact h.decideSampleResult _ _ _
    | sampleVoid _ => exact h.decideSampleVoid _
    | shiftMark _ => exact h.decideShiftMark _
    | seasonOpen => exact h.decideSeasonOpen
    | lineSet _ _ => exact h.decideLineSet _ _
    | _ => cases hq

/-! ### The link -/

theorem answer_decideRequest (q : Request) (kind tag tag' : Byte) :
    (s.answer kind tag (Machine.decideRequest q tag' s)).oneOpenWindow :=
  (h.decideRequest q tag').of_windows (by simp)

theorem dispatch (f : Frame) : (s.dispatch f).oneOpenWindow := by
  unfold State.dispatch
  split
  · exact h.answer_decideRequest _ _ _ _
  · exact h.of_windows rfl
  · exact h.of_windows rfl

omit h in
theorem settle (fuel : Nat) : ∀ {s : State}, s.oneOpenWindow → (s.settle fuel).oneOpenWindow := by
  induction fuel with
  | zero => exact fun h => h.of_windows (State.pump_windows _)
  | succ fuel ih =>
    intro s h
    have hp : s.pump.oneOpenWindow := h.of_windows s.pump_windows
    unfold State.settle
    extract_lets s₁
    split
    · exact hp
    · exact ite (ih (dispatch (hp.of_windows (by rfl)) _)) hp

theorem settleLink : s.settleLink.oneOpenWindow := settle _ h

theorem feedByte (b : Byte) : (s.feedByte b).oneOpenWindow := by
  unfold State.feedByte
  split
  · exact ite (h.of_windows (by rfl)) h
  · exact ite (h.of_windows (by rfl)) (h.of_windows (by rfl))
  · refine ite (h.of_windows (by rfl)) ?_
    split
    · exact settleLink (h.of_windows (by simp))
    · exact h.of_windows rfl

theorem badLength (l : Byte) : (s.badLength l).oneOpenWindow := by
  unfold State.badLength
  split
  · exact (h.feedByte _).feedByte _
  · exact h.feedByte _
  · exact h

theorem submit (q : Request) (tag : Byte) : (s.submit q tag).oneOpenWindow :=
  ite (h.answer_decideRequest _ _ _ _).settleLink (settleLink (h.of_windows (by simp)))

/-! ### The resets -/

theorem voidLostCan (n : Nat) : (s.voidLostCan n).oneOpenWindow := by
  unfold State.voidLostCan
  split
  · next w hw =>
    split
    · next hlost => exact h.markVoid hw (by simp [hlost.1]) _
    · exact h
  · exact h

theorem voidExpired (n : Nat) : (s.voidExpired n).oneOpenWindow := by
  unfold State.voidExpired
  split
  · next w hw =>
    split
    · next hdue => exact (h.raise _).markVoid hw (State.not_opened_of_deadlinePassed hdue) _
    · exact h
  · exact h

theorem settleWindows : s.settleWindows.oneOpenWindow :=
  foldl (h.foldl (fun n hu => hu.voidLostCan n) _) (fun n hu => hu.voidExpired n) _

omit h in
theorem blank (s : State) : s.blank.oneOpenWindow := by
  rw [State.blank_eq]
  exact State.reset_oneOpenWindow.of_windows rfl

theorem restart (minutes seconds : Nat) (stopped : Bool) (failing : Nat) :
    (s.restart minutes seconds stopped failing).oneOpenWindow := by
  cases hmark : s.store.formatMark with
  | false =>
    unfold State.restart
    rw [if_pos hmark]
    exact blank s
  | true =>
    rw [State.restart_formatted minutes seconds stopped failing hmark]
    have hs : ((s.comeUp minutes seconds stopped).scanned failing).oneOpenWindow :=
      h.of_windows (State.scanned_windows failing)
    exact settleLink (hs.settleWindows.of_windows (by simp [State.started, State.ownersUp]))

/-! ### Every command and every step -/

theorem exec {c : Instr} {t : State} (he : exec c s = .next t) : t.oneOpenWindow := by
  cases c
  all_goals obtain rfl := Host.Outcome.next.inj he
  case frameReceived => exact (h.foldl (fun b hu => hu.feedByte b) _).settleLink
  case frameBadLength => exact (h.badLength _).settleLink
  case inputHoldExpiry => exact (h.holdExpired _).settleLink
  case strokeConfirmExpiry => exact h.confirmExpired.settleLink
  case minuteEvent => exact h.minute.settleLink
  case runningMinutesLimit => exact h.durationTest.settleLink
  case resultDeadlineExpiry => exact (h.expireWindow _).settleLink
  case writeComplete => exact h.completeWrite.settleLink
  case restart => exact h.restart _ _ _ _
  case blankStart => exact blank s
  case unknownRequestKind | frameGap | transmitComplete | rawLevelChange | clearHoldExpiry | bindingExpiry
      | rangePersistenceExpiry | scPulseEnd | scGapEnd | calStepTimeout | calIdleTimeout | zeroDeadlineExpiry
      | loadCellConversion | stableEnding | wireOffRaise | wireOffClear | verifyFailure =>
    exact settleLink (h.of_windows (by simp))
  all_goals exact h.submit _ _

theorem step {t : State} (hs : step s = .next t) : t.oneOpenWindow := by
  cases hq : s.pending with
  | nil =>
    rw [step_of_empty hq] at hs
    obtain rfl := Host.Outcome.next.inj hs
    exact h.of_windows s.tick_windows
  | cons c rest =>
    rw [step_of_cons hq] at hs
    exact exec (h.of_windows (by rfl)) hs

end

end State.oneOpenWindow

/-- Settles O5: every step keeps the invariant, `State.oneOpenWindow.step`. -/
theorem oneWindowStaysOpen : Obligations.OneWindowStaysOpen := fun _ _ h hs => h.step hs

end Sys2Proof.Machine

/-! SUPPORT. Juice, water and the sampler. -/
namespace Sys2Proof.Machine

open Sys2Proof

section

variable {s : State}

/-! ## A window's record in a canonical table -/

theorem Table.modify_congr {α : Type} {t : Table α} (hwf : t.wf) {n : Nat} {a : α} (h : t.find n = some a)
    {f g : α → α} (hfg : f a = g a) : t.modify n f = t.modify n g := by
  rw [Table.modify_const hwf h f, Table.modify_const hwf h g, hfg]

theorem State.modWindow_congr {n : Nat} {w : Window} {f g : Window → Window} (hwf : s.windows.records.wf)
    (hw : s.window? n = some w) (h : f w = g w) : s.modWindow n f = s.modWindow n g := by
  rw [State.modWindow, Table.modify_congr hwf hw h]
  rfl

/-- In a canonical table a change of a window may be given by its result. -/
theorem State.modWindow_eq {n : Nat} {w v : Window} {f : Window → Window} (hwf : s.windows.records.wf)
    (hw : s.window? n = some w) (hv : f w = v) : s.modWindow n f = s.modWindow n fun _ => v :=
  State.modWindow_congr hwf hw hv

theorem State.requestWindowRecord_eq {n : Nat} {w : Window} (hw : s.window? n = some w) :
    s.requestWindowRecord n = s.requestWrite (.window n) (.window n w) := by
  simp only [State.requestWindowRecord, hw]

/-- A window that goes VOID, by its record: fallback quality, and the record asked for (R62, R63). -/
theorem State.voidWindow_eq {n : Nat} {w v : Window} {mark : Window → Window} (hwf : s.windows.records.wf)
    (hw : s.window? n = some w)
    (hv : { mark w with state := .voided, quality := some s.fallback, fallback := true } = v) :
    s.voidWindow n mark = (s.modWindow n fun _ => v).requestWrite (.window n) (.window n v) := by
  have hmark : s.markVoid n mark = s.modWindow n fun _ => v := State.modWindow_eq hwf hw hv
  rw [State.voidWindow, hmark, State.requestWindowRecord_eq]
  rw [State.modWindow_window?, hw, Option.map_some]

/-! ## Edges of the field lines (R143, R144) -/

theorem exec_edge {line : InputLine} (h : s.edgeDue line) :
    exec (.inputHoldExpiry line) s =
      .next (State.settleLink (((s.levelTaken line).deliverLevel line).deliverEdge line)) :=
  congrArg (fun t : State => Host.Outcome.next t.settleLink) (State.holdExpired_edge h)

/-- At an active edge the level that is taken is the active one. -/
theorem State.levelTaken_level {line : InputLine} (h : s.edgeDue line) :
    ((s.levelTaken line).lines.input line).level = some true := by
  obtain ⟨hlevel, -, hraw⟩ := h
  rw [State.levelTaken, State.setInput_lines, FieldLines.input_setInput]
  unfold Input.level at hlevel ⊢
  cases hf : (s.lines.input line).filtered with
  | none => simp [hf] at hlevel
  | some high =>
    rw [hf] at hlevel hraw
    cases hp : (s.lines.input line).polarity <;> cases high <;> cases hr : (s.lines.input line).raw <;> simp_all

/-! ## The sampler's command (R55, R149) -/

theorem State.samplerTest_issues {w : Window} (hwf : s.windows.records.wf) (hw : s.window? s.windows.counter = some w)
    (hfits : fits32 (w.commanded + 1)) (hp : s.spacing ≤ s.windows.pacing) (hc : s.lines.command = none)
    (hr : s.running = true) :
    s.samplerTest = { s with
      windows := { s.windows with
        records := s.windows.records.modify s.windows.counter fun w => { w with commanded := w.commanded + 1 }
        pacing := s.windows.pacing - s.spacing }
      lines := { s.lines with
        sc := s.lines.sc.issue, command := some ⟨s.windows.counter, s.shift.working.confirm * 1000⟩ } } := by
  have hcommanded : (s.modWindow s.openNumber fun w => { w with commanded := add32 w.commanded 1 }) =
      s.modWindow s.windows.counter fun w => { w with commanded := w.commanded + 1 } :=
    State.modWindow_congr hwf hw (by rw [add32_fits hfits])
  unfold State.samplerTest
  rw [if_pos ⟨hp, hc, hr⟩]
  simp only [hcommanded]
  rfl

/-! ## Juice and water (R58) -/

theorem State.juicePulse_eq {w : Window} {kg : Nat} (hwf : s.windows.records.wf)
    (hw : s.window? s.windows.counter = some w) (hfits : fits32 (w.juice + kg)) :
    s.juicePulse kg = (s.modWindow s.windows.counter fun w => { w with juice := w.juice + kg }).tally
      fun a => { a with juice := a.juice.plus kg } :=
  congrArg (State.tally · _) (State.modWindow_congr hwf hw (by rw [add32_fits hfits]))

theorem State.waterPulse_eq {w : Window} {kg : Nat} (hwf : s.windows.records.wf)
    (hw : s.window? s.windows.counter = some w) (hfits : fits32 (w.water + kg)) :
    s.waterPulse kg = (s.modWindow s.windows.counter fun w => { w with water := w.water + kg }).tally
      fun a => { a with water := a.water.plus kg } :=
  congrArg (State.tally · _) (State.modWindow_congr hwf hw (by rw [add32_fits hfits]))

/-! ## Strokes (R56, R57) -/

theorem State.strokeEdge_idle (h : s.lines.command = none) : s.strokeEdge = s := by
  simp only [State.strokeEdge, h]

theorem State.strokeEdge_command {c : SamplerCommand} (h : s.lines.command = some c) :
    s.strokeEdge = (s.endCommand.strokeSeen c.window).samplerTest := by
  simp only [State.strokeEdge, h]

theorem State.confirmExpired_command {c : SamplerCommand} (h : s.lines.command = some c) :
    s.confirmExpired = (s.endCommand.strokeMissed c.window).samplerTest := by
  simp only [State.confirmExpired, h]

/-- A stroke seen, by its window's record (R57). -/
theorem State.strokeSeen_eq {n : Nat} {w : Window} (hwf : s.windows.records.wf) (hw : s.window? n = some w)
    (hfits : fits32 (w.seen + 1)) :
    (w.state = .opened → s.strokeSeen n = s.modWindow n fun _ => { w with seen := w.seen + 1 }) ∧
    (w.state = .closed → s.strokeSeen n = s.modWindow n fun _ => { w with
      seen := w.seen + 1, thin := decide (w.seen + 1 < s.shift.working.minStrokes) }) ∧
    (w.state = .resulted ∨ w.state = .voided → s.strokeSeen n = s.modWindow n fun _ => w) := by
  refine ⟨fun hs => ?_, fun hs => ?_, fun hs => ?_⟩
  · exact State.modWindow_eq hwf hw (by simp only [hs, add32_fits hfits])
  · exact State.modWindow_eq hwf hw (by simp only [hs, add32_fits hfits])
  · exact State.modWindow_eq hwf hw (by rcases hs with hs | hs <;> simp only [hs])

/-- A stroke missed, by its window's record (R57). -/
theorem State.strokeMissed_eq {n : Nat} {w : Window} (hwf : s.windows.records.wf) (hw : s.window? n = some w)
    (hfits : fits32 (w.missed + 1)) :
    let r := s.raise .samplerMiss
    (w.state = .opened ∨ (w.state = .closed ∧ 0 < w.seen) →
      s.strokeMissed n = r.modWindow n fun _ => { w with missed := w.missed + 1 }) ∧
    (w.state = .closed → w.seen = 0 →
      let v : Window := { w with
        state := .voided, missed := w.missed + 1, noStrokes := true, quality := some s.fallback, fallback := true }
      s.strokeMissed n = (r.modWindow n fun _ => v).requestWrite (.window n) (.window n v)) ∧
    (w.state = .resulted ∨ w.state = .voided → s.strokeMissed n = r) := by
  have hwr : (s.raise .samplerMiss).window? n = some w := hw
  have hmissed : add32 w.missed 1 = w.missed + 1 := add32_fits hfits
  refine ⟨?_, fun hs hseen => ?_, fun hs => ?_⟩
  · rintro (hs | ⟨hs, hseen⟩)
    · simp only [State.strokeMissed, hwr, hs]
      exact State.modWindow_eq hwf hwr (by simp only [hs, hmissed])
    · simp only [State.strokeMissed, hwr, hs, if_neg (Nat.ne_of_gt hseen)]
      exact State.modWindow_eq hwf hwr (by simp only [hs, hmissed])
  · simp only [State.strokeMissed, hwr, hs, if_pos hseen]
    exact State.voidWindow_eq hwf hwr (by simp only [hmissed]; rfl)
  · rcases hs with hs | hs <;> simp only [State.strokeMissed, hwr, hs]

theorem State.strokeMissed_released {n : Nat} (hw : s.window? n = none) : s.strokeMissed n = s.raise .samplerMiss := by
  have hr : (s.raise .samplerMiss).window? n = none := hw
  simp only [State.strokeMissed, hr]

end

/-- Settles O33: an active edge is the line's pulse, and the sums fit. -/
theorem juiceAndWaterPulsesAreCounted : Obligations.JuiceAndWaterPulsesAreCounted := by
  intro s w hcanon hw
  obtain ⟨-, -, hwf, -, -⟩ := hcanon
  refine ⟨fun hedge hfits => ?_, fun hedge hfits => ?_⟩
  · have hpulse := State.juicePulse_eq (s := s.levelTaken .jp) hwf hw hfits
    rw [exec_edge hedge]
    exact congrArg (fun t : State => Host.Outcome.next t.settleLink) hpulse
  · have hpulse := State.waterPulse_eq (s := s.levelTaken .wp) hwf hw hfits
    rw [exec_edge hedge]
    exact congrArg (fun t : State => Host.Outcome.next t.settleLink) hpulse

/-- Settles O34: the rise of TR is delivered as the test for a due command; the pulse's ends are SC's own. -/
theorem samplerCommandsAreIssuedAndPulsed : Obligations.SamplerCommandsAreIssuedAndPulsed := by
  refine ⟨?_, fun s left => ⟨fun hsc => ?_, fun hsc => ?_⟩⟩
  · intro s w hcanon hedge hw hcommand hdue hfits t
    obtain ⟨-, -, hwf, -, -⟩ := hcanon
    have hrunning : t.running = true := by
      have hlevel : t.lines.tr.level = some true := State.levelTaken_level hedge
      rw [State.running, hlevel]
      rfl
    have hissue := State.samplerTest_issues (s := t) hwf hw hfits hdue hcommand hrunning
    have hdeliver : t.deliverLevel .tr = t.samplerTest := if_pos hrunning
    rw [exec_edge hedge, State.deliverEdge, hdeliver]
    exact congrArg (fun t : State => Host.Outcome.next t.settleLink) hissue
  · show Host.Outcome.next _ = _
    rw [hsc]
    rfl
  · show Host.Outcome.next _ = _
    rw [hsc]
    rfl

/-- Settles O35, by the window's record at the stroke. -/
theorem strokesAreCountedToTheirWindow : Obligations.StrokesAreCountedToTheirWindow := by
  refine ⟨fun s hcanon hedge => ?_, fun s c hcanon hc => ?_⟩
  all_goals obtain ⟨-, -, hwf, -, -⟩ := hcanon
  · have hexec : exec (.inputHoldExpiry .ss) s = .next (s.levelTaken .ss).strokeEdge.settleLink := exec_edge hedge
    rw [hexec]
    refine ⟨fun hc => ?_, fun c w hc hw hfits => ?_⟩
    · rw [State.strokeEdge_idle (s := s.levelTaken .ss) hc]
    · intro t ended counted
      obtain ⟨hopened, hclosed, hfinal⟩ := State.strokeSeen_eq (s := ended) hwf hw hfits
      have hedge' : (s.levelTaken .ss).strokeEdge = (ended.strokeSeen c.window).samplerTest :=
        State.strokeEdge_command (s := t) hc
      rw [hedge']
      exact ⟨fun hs => by rw [hopened hs], fun hs => by rw [hclosed hs]; rfl, fun hs => by rw [hfinal hs]⟩
  · intro ended
    let u : State := { s with lines := { s.lines with command := none } }
    have hexec : exec .strokeConfirmExpiry s = .next (u.strokeMissed c.window).samplerTest.settleLink :=
      congrArg (fun t : State => Host.Outcome.next t.settleLink) (State.confirmExpired_command hc)
    rw [hexec]
    refine ⟨fun w hw hfits => ?_, fun hw => by rw [State.strokeMissed_released (s := u) hw]⟩
    intro counted
    obtain ⟨hcounted, hvoid, hfinal⟩ := State.strokeMissed_eq (s := u) hwf hw hfits
    exact ⟨fun hs => by rw [hcounted hs], fun hs hseen => by rw [hvoid hs hseen]; rfl, fun hs => by rw [hfinal hs]⟩

end Sys2Proof.Machine

/-! SUPPORT. The close of a window, and the requests that name one. -/
namespace Sys2Proof.Machine

open Sys2Proof

section

variable {s : State}

/-! ## The close (R47 to R49) -/

theorem State.canOpen_eq_true (hlen : s.windows.records.length < 32) (hcounter : s.windows.counter < 999999)
    (hstate : s.store.state ≠ .failed) (hfree : s.store.reserved + 1 ≤ s.free) : s.canOpen = true := by
  simp [State.canOpen, State.canReserve, Config.windowCapacity, Config.numberLimit, hlen, hcounter, hstate, hfree]

theorem State.openWindow_eq {n : Nat} {time : MillTime} (hn : s.windows.counter = n) (htime : s.now = time)
    (shift : Nat) :
    s.openWindow shift = State.reserve { s with windows := { s.windows with
      records := s.windows.records.put (n + 1) (Window.fresh shift time), counter := n + 1, pacing := 0 } } 1 := by
  subst hn htime
  rfl

/-- The OPEN window at its close, its record as given: VOID with no stroke seen and no command outstanding for it, else
CLOSED (R49). -/
def State.shut (s : State) (w : Window) : State :=
  let n := s.windows.counter
  if w.seen = 0 ∧ s.commandFor n = false then
    s.voidWindow n fun w => { w with closedAt := some s.now, noStrokes := true }
  else
    s.modWindow n fun w => { w with
      state := .closed, closedAt := some s.now, thin := decide (w.seen < s.shift.working.minStrokes)
      deadline := some (s.minutesFromNow s.shift.working.resultTimeout) }

/-- What follows once window `n` is CLOSED or VOID: the successor opens, and the close is counted and told of (R48,
R49). -/
def State.succeed (s : State) (shift n : Nat) (v : Window) : State :=
  ((s.openWindow shift).tally fun a => { a with windows := a.windows.plus 1 }).notify
    (.windowClosed (v.closedNotice n (n + 1)))

@[simp] theorem State.shut_counter (w : Window) : (s.shut w).windows.counter = s.windows.counter := by
  unfold State.shut
  extract_lets n
  split
  · simp [State.voidWindow, State.markVoid]
  · rfl

/-- A close, by the record that it leaves (R49). -/
theorem State.closeWindow_eq {w v : Window} (shift : Nat) (hw : s.window? s.windows.counter = some w)
    (hv : (s.shut w).window? s.windows.counter = some v) :
    s.closeWindow shift = (s.shut w).succeed shift s.windows.counter v := by
  have hsuccessor : ((s.shut w).openWindow shift).windows.counter = s.windows.counter + 1 := by
    rw [State.openWindow_counter, State.shut_counter]
  have hkept : ((s.shut w).openWindow shift).window? s.windows.counter = some v := by
    rw [State.openWindow_window?, State.shut_counter, if_neg (Nat.ne_of_lt (Nat.lt_succ_self _)), hv]
  unfold State.closeWindow
  extract_lets n time
  split
  · next hnone => exact nomatch hw.symm.trans hnone
  · next w' hw' =>
    obtain rfl := Option.some.inj (hw.symm.trans hw')
    extract_lets s₁ s₂ s₃
    split
    · next v' hv' =>
      obtain rfl := Option.some.inj (hkept.symm.trans hv')
      show s₃.notify (.windowClosed (v.closedNotice n ((s.shut w).openWindow shift).windows.counter)) = _
      rw [hsuccessor]
      rfl
    · next hnone => exact nomatch hkept.symm.trans hnone

theorem State.commandFor_iff {n : Nat} : s.commandFor n = true ↔ ∃ c, s.lines.command = some c ∧ c.window = n := by
  unfold State.commandFor
  cases s.lines.command <;> simp

/-- The close of a window with a stroke seen, or a command outstanding for it: it goes CLOSED (R49). -/
theorem State.closeWindow_closed {w v : Window} (shift : Nat) (hwf : s.windows.records.wf)
    (hw : s.window? s.windows.counter = some w)
    (h : 0 < w.seen ∨ ∃ c, s.lines.command = some c ∧ c.window = s.windows.counter)
    (hv : { w with
      state := .closed, closedAt := some s.now, thin := decide (w.seen < s.shift.working.minStrokes)
      deadline := some (s.minutesFromNow s.shift.working.resultTimeout) } = v) :
    s.closeWindow shift = (s.modWindow s.windows.counter fun _ => v).succeed shift s.windows.counter v := by
  have hcan : ¬ (w.seen = 0 ∧ s.commandFor s.windows.counter = false) := by
    rintro ⟨hseen, hcommand⟩
    rw [← State.commandFor_iff, hcommand] at h
    rcases h with h | h
    · omega
    · cases h
  have hshut : s.shut w = s.modWindow s.windows.counter fun _ => v :=
    (if_neg hcan).trans (State.modWindow_eq hwf hw hv)
  rw [State.closeWindow_eq shift hw (v := v) (by rw [hshut, State.modWindow_window?, hw, Option.map_some]), hshut]

/-- The close of a window with no stroke seen and no command outstanding for it: it goes VOID (R49, R62). -/
theorem State.closeWindow_voided {w v : Window} (shift : Nat) (hwf : s.windows.records.wf)
    (hw : s.window? s.windows.counter = some w) (hseen : w.seen = 0)
    (hcommand : ∀ c, s.lines.command = some c → c.window ≠ s.windows.counter)
    (hv : { w with
      state := .voided, closedAt := some s.now, noStrokes := true, quality := some s.fallback, fallback := true } = v) :
    s.closeWindow shift = State.succeed ((s.modWindow s.windows.counter fun _ => v).requestWrite
      (.window s.windows.counter) (.window s.windows.counter v)) shift s.windows.counter v := by
  have hnone : s.commandFor s.windows.counter = false := by
    rw [Bool.eq_false_iff, ne_eq, State.commandFor_iff]
    rintro ⟨c, hc, hn⟩
    exact hcommand c hc hn
  have hshut : s.shut w = (s.modWindow s.windows.counter fun _ => v).requestWrite
      (.window s.windows.counter) (.window s.windows.counter v) :=
    (if_pos ⟨hseen, hnone⟩).trans (State.voidWindow_eq hwf hw hv)
  have hwindow : (s.shut w).window? s.windows.counter = some v := by
    rw [hshut, State.window?, State.requestWrite_windows]
    exact (State.modWindow_window? _ _).trans (congrArg _ hw)
  rw [State.closeWindow_eq shift hw hwindow, hshut]

/-! ## SAMPLE CLOSE, SAMPLE RESULT and SAMPLE VOID (R53, R59, R61) -/

theorem decideSampleClose_take {n : Nat} (h1 : 1 ≤ n) (h2 : n ≤ 999999) (hn : n = s.windows.counter)
    (hstate : s.store.state ≠ .failed) (hopen : s.canOpen = true) :
    decideSampleClose n s = .take (s.closeWindow s.shift.number)
      (.successor (s.closeWindow s.shift.number).windows.counter) := by
  subst hn
  simp [decideSampleClose, numberBad_ok h1 h2, State.openNumber, hstate, hopen]

theorem State.succeed_counter {shift n : Nat} {v : Window} :
    (s.succeed shift n v).windows.counter = s.windows.counter + 1 := by
  rw [State.succeed, State.notify_windows]
  exact s.openWindow_counter shift

/-- SAMPLE CLOSE, by the close that it takes (R53). -/
theorem exec_sampleClose {t : State} {tag : Byte} {v : Window} (hready : s.ready) (h1 : 1 ≤ s.windows.counter)
    (h2 : s.windows.counter < 999999) (hlen : s.windows.records.length < 32) (hstate : s.store.state ≠ .failed)
    (hfree : s.store.reserved + 1 ≤ s.free) (hcounter : t.windows.counter = s.windows.counter)
    (hclose : s.closeWindow s.shift.number = t.succeed s.shift.number s.windows.counter v) :
    exec (.sampleClose tag s.windows.counter) s = .next (State.okReply
      (t.succeed s.shift.number s.windows.counter v) 0xB8 tag (.successor (s.windows.counter + 1))) := by
  have htake := decideSampleClose_take h1 h2.le rfl hstate (State.canOpen_eq_true hlen h2 hstate hfree)
  rw [hclose, State.succeed_counter, hcounter] at htake
  exact exec_taken hready (.sampleClose s.windows.counter) htake rfl

/-- The field tests of SAMPLE RESULT (R59). -/
theorem sampleResult_badField_iff (n brix pol : Nat) :
    (numberBad n = true ∨ brix < 100 ∨ 3000 < brix ∨ brix < pol) ↔
      (n = 0 ∨ 999999 < n ∨ brix < 100 ∨ 3000 < brix ∨ brix < pol) := by
  simp only [numberBad, Bool.or_eq_true, decide_eq_true_eq, or_assoc]
  rfl

theorem decideSampleResult_badField {n brix pol : Nat}
    (h : n = 0 ∨ 999999 < n ∨ brix < 100 ∨ 3000 < brix ∨ brix < pol) :
    decideSampleResult n brix pol s = .refuse .badField :=
  if_pos ((sampleResult_badField_iff n brix pol).mpr h)

/-- SAMPLE RESULT whose fields are good, by what its number names (R59). -/
theorem decideSampleResult_eq {n brix pol : Nat} (h1 : 1 ≤ n) (h2 : n ≤ 999999) (h100 : 100 ≤ brix)
    (h3000 : brix ≤ 3000) (hpol : pol ≤ brix) :
    (s.windows.counter < n → decideSampleResult n brix pol s = .refuse .notFound) ∧
    (n ≤ s.windows.counter →
      (s.window? n = none → decideSampleResult n brix pol s = .refuse .tooLate) ∧
      ∀ w, s.window? n = some w →
        (w.state = .opened → decideSampleResult n brix pol s = .refuse .wrongState) ∧
        (w.state = .resulted → decideSampleResult n brix pol s = .refuse .already) ∧
        (w.state = .voided → decideSampleResult n brix pol s = .refuse .tooLate) ∧
        (w.state = .closed → s.windows.records.wf →
          let v : Window := { w with state := .resulted, quality := some ⟨brix, pol⟩ }
          decideSampleResult n brix pol s = .take
            (State.requestWrite
              { s with windows := { s.windows with
                  records := s.windows.records.modify n fun _ => v
                  sumCanePol := s.windows.sumCanePol + w.cane * pol
                  sumCaneBrix := s.windows.sumCaneBrix + w.cane * brix
                  sumCane := s.windows.sumCane + w.cane } }
              (.window n) (.window n v)) .none)) := by
  have hfields : ¬ (numberBad n = true ∨ brix < 100 ∨ 3000 < brix ∨ brix < pol) := by
    rw [sampleResult_badField_iff]
    omega
  unfold decideSampleResult
  rw [if_neg hfields]
  refine ⟨fun hn => if_pos hn, fun hn => ?_⟩
  rw [if_neg (Nat.not_lt.mpr hn)]
  refine ⟨fun hw => by simp only [hw], fun w hw => ?_⟩
  refine ⟨fun hs => by simp only [hw, hs], fun hs => by simp only [hw, hs], fun hs => by simp only [hw, hs],
    fun hs hwf => ?_⟩
  intro v
  have hmod : (s.modWindow n fun w => { w with state := .resulted, quality := some ⟨brix, pol⟩ }) =
      s.modWindow n fun _ => v := State.modWindow_eq hwf hw rfl
  simp only [hw, hs, hmod]
  rw [State.requestWindowRecord_eq (w := v)]
  · rfl
  · exact (Table.find_modify_self s.windows.records n fun _ => v).trans (congrArg _ hw)

theorem decideSampleVoid_badField {n : Nat} (h : n = 0 ∨ 999999 < n) : decideSampleVoid n s = .refuse .badField :=
  if_pos (numberBad_bad h)

/-- SAMPLE VOID of a good number, by what it names (R61, R62). -/
theorem decideSampleVoid_eq {n : Nat} (h1 : 1 ≤ n) (h2 : n ≤ 999999) :
    (s.windows.counter < n → decideSampleVoid n s = .refuse .notFound) ∧
    (n ≤ s.windows.counter →
      (s.window? n = none → decideSampleVoid n s = .refuse .tooLate) ∧
      ∀ w, s.window? n = some w →
        (w.state = .opened ∨ w.state = .resulted → decideSampleVoid n s = .refuse .wrongState) ∧
        (w.state = .voided → decideSampleVoid n s = .refuse .tooLate) ∧
        (w.state = .closed → s.windows.records.wf →
          let v : Window := { w with state := .voided, quality := some s.fallback, fallback := true }
          decideSampleVoid n s = .take ((s.modWindow n fun _ => v).requestWrite (.window n) (.window n v))
            (.quality s.fallback))) := by
  unfold decideSampleVoid
  rw [if_neg (by simp [numberBad_ok h1 h2])]
  refine ⟨fun hn => if_pos hn, fun hn => ?_⟩
  rw [if_neg (Nat.not_lt.mpr hn)]
  refine ⟨fun hw => by simp only [hw], fun w hw => ?_⟩
  simp only [hw]
  refine ⟨fun hs => by rcases hs with hs | hs <;> simp only [hs], fun hs => by simp only [hs], fun hs hwf => ?_⟩
  simp only [hs, State.voidWindow_eq (mark := id) hwf hw rfl, id]

end

/-- Settles O28: the two closes, `State.closeWindow_closed` and `State.closeWindow_voided`, under the request. -/
theorem sampleCloseOpensTheSuccessor : Obligations.SampleCloseOpensTheSuccessor := by
  intro s tag n w hcanon hready hn h1 h2 hw hlen hstate hfree closed voided opened counted told
  obtain ⟨-, -, hwf, -, -⟩ := hcanon
  subst hn
  refine ⟨fun hcan => ?_, fun hseen hcommand => ?_⟩
  · exact exec_sampleClose (t := s.modWindow s.windows.counter fun _ => closed) hready h1 h2 hlen hstate hfree rfl
      (State.closeWindow_closed s.shift.number hwf hw hcan rfl)
  · have hclose := State.closeWindow_voided s.shift.number hwf hw hseen hcommand (v := voided) rfl
    have hexec := exec_sampleClose (tag := tag) hready h1 h2 hlen hstate hfree (by simp) hclose
    rw [hexec, State.succeed, State.openWindow_eq (n := s.windows.counter) (time := s.clock.reading) (by simp)
      (by simp [State.now])]
    rfl


/-- Settles O29: the tests in order are those of `decideSampleResult_eq` and `decideSampleVoid_eq`. -/
theorem sampleResultsAndVoidsMakeWindowsFinal : Obligations.SampleResultsAndVoidsMakeWindowsFinal := by
  refine ⟨fun s tag n brix pol hcanon hready => ?_, fun s tag n hcanon hready => ?_⟩
  all_goals
    obtain ⟨-, -, hwf, -, -⟩ := hcanon
    intro refused
  · have refuse {code : ResultCode} (hd : decideSampleResult n brix pol s = .refuse code) : refused code :=
      exec_refused hready (.sampleResult n brix pol) hd rfl
    refine ⟨fun h => refuse (decideSampleResult_badField h), fun h1 h2 h100 h3000 hpol => ?_⟩
    obtain ⟨hnew, hold⟩ := decideSampleResult_eq (s := s) h1 h2 h100 h3000 hpol
    refine ⟨fun hn => refuse (hnew hn), fun hn => ?_⟩
    obtain ⟨hgone, hfound⟩ := hold hn
    refine ⟨fun hw => refuse (hgone hw), fun w hw => ?_⟩
    obtain ⟨hopened, hresulted, hvoided, hclosed⟩ := hfound w hw
    exact ⟨fun hs => refuse (hopened hs), fun hs => refuse (hresulted hs), fun hs => refuse (hvoided hs),
      fun hs => exec_taken hready (.sampleResult n brix pol) (hclosed hs hwf) rfl⟩
  · have refuse {code : ResultCode} (hd : decideSampleVoid n s = .refuse code) : refused code :=
      exec_refused hready (.sampleVoid n) hd rfl
    refine ⟨fun h => refuse (decideSampleVoid_badField h), fun h1 h2 => ?_⟩
    obtain ⟨hnew, hold⟩ := decideSampleVoid_eq (s := s) h1 h2
    refine ⟨fun hn => refuse (hnew hn), fun hn => ?_⟩
    obtain ⟨hgone, hfound⟩ := hold hn
    refine ⟨fun hw => refuse (hgone hw), fun w hw => ?_⟩
    obtain ⟨hother, hvoided, hclosed⟩ := hfound w hw
    exact ⟨fun hs => refuse (hother hs), fun hs => refuse (hvoided hs),
      fun hs => exec_taken hready (.sampleVoid n) (hclosed hs hwf) rfl⟩

end Sys2Proof.Machine

/-! SUPPORT. The limits of a window (R51, R52, R60), and the minute (R184). -/
namespace Sys2Proof.Machine

open Sys2Proof

section

variable {s : State}

/-! ## A passed deadline (R60) -/

theorem State.deadlinePassed_iff {w : Window} :
    s.deadlinePassed w = true ↔ w.state = .closed ∧ ∃ d, w.deadline = some d ∧ d ≤ s.clock.minutes := by
  unfold State.deadlinePassed
  cases w.state <;> cases w.deadline <;> simp

theorem State.deadlinePassed_congr {t : State} {v w : Window} (hstate : v.state = w.state)
    (hdeadline : v.deadline = w.deadline) (hclock : t.clock = s.clock) : t.deadlinePassed v = s.deadlinePassed w := by
  simp only [State.deadlinePassed, hstate, hdeadline, hclock]

theorem State.expireWindow_due {n : Nat} {w : Window} (hwf : s.windows.records.wf) (hw : s.window? n = some w)
    (h : s.deadlinePassed w = true) :
    let v : Window := { w with state := .voided, expired := true, quality := some s.fallback, fallback := true }
    s.expireWindow n = ((s.raise .sampleExpired).modWindow n fun _ => v).requestWrite (.window n) (.window n v) := by
  intro v
  simp only [State.expireWindow, hw, if_pos h]
  exact State.voidWindow_eq (s := s.raise .sampleExpired) hwf hw rfl

theorem State.expireWindow_left {n : Nat} (h : ∀ w, s.window? n = some w → s.deadlinePassed w = false) :
    s.expireWindow n = s := by
  unfold State.expireWindow
  split
  · rfl
  · next w hw => rw [h w hw]; rfl

/-! ## The running minutes (R51, R52) -/

theorem State.closeRetest_of_cannotOpen (h : s.canOpen = false) : s.closeRetest = s := by
  simp [State.closeRetest, h]

/-- At the running-minutes limit the OPEN window closes when a successor can open, EXTENDED or not (R51, R52). -/
theorem State.durationTest_closes {w : Window} (hw : s.window? s.windows.counter = some w)
    (hlimit : s.shift.working.maxRunning ≤ w.running) (hopen : s.canOpen = true) :
    s.durationTest = s.closeWindow s.shift.number := by
  cases hx : w.extended <;>
    simp [State.durationTest, State.closeRetest, State.openExtended, State.closeDue, State.triggerClose,
      State.openNumber, hw, hx, hlimit, hopen]

/-- At the limit with no room for a successor the OPEN window is EXTENDED, once (R52). -/
theorem State.durationTest_extends {w : Window} (hw : s.window? s.windows.counter = some w)
    (hlimit : s.shift.working.maxRunning ≤ w.running) (hopen : s.canOpen = false) :
    (w.extended = false → s.durationTest =
      (s.modWindow s.windows.counter fun w => { w with extended := true }).raise .windowExtended) ∧
    (w.extended = true → s.durationTest = s) := by
  refine ⟨fun hx => ?_, fun hx => ?_⟩
  · simp [State.durationTest, State.openExtended, State.triggerClose, State.extendWindow, State.openNumber, hw, hx,
      hlimit, hopen]
  · simp [State.durationTest, State.openExtended, State.openNumber, hw, hx, State.closeRetest_of_cannotOpen hopen]

/-- Below the limit a window that is not EXTENDED stays as it is (R51). -/
theorem State.durationTest_below {w : Window} (hw : s.window? s.windows.counter = some w) (hx : w.extended = false)
    (hlimit : w.running < s.shift.working.maxRunning) : s.durationTest = s := by
  simp [State.durationTest, State.openExtended, State.openNumber, hw, hx, Nat.not_le.mpr hlimit]

/-! ## The minute (R184) -/

theorem State.expireWindows_left (h : ∀ n w, s.window? n = some w → s.deadlinePassed w = false) :
    s.expireWindows = s :=
  List.foldl_fixed' (fun n => State.expireWindow_left (h n)) _

theorem State.zeroMinute_before {b : BridgeNo} (h : s.clock.minutes < (s.bridge b).zeroDeadline) :
    s.zeroMinute b = s := by
  simp [State.zeroMinute, h]

/-- A minute in which no close, no deadline and no zero falls due (R51, R60, R104). -/
theorem State.minute_quiet {t : State} {w : Window}
    (ht : State.countMinute { s with clock := { s.clock with minutes := add32 s.clock.minutes 1 } } = t)
    (hw : t.window? t.windows.counter = some w) (hx : w.extended = false)
    (hlimit : w.running < t.shift.working.maxRunning)
    (hdeadlines : ∀ n v, t.window? n = some v → t.deadlinePassed v = false)
    (hzeros : ∀ b, t.clock.minutes < (t.bridge b).zeroDeadline) : s.minute = t.clockMinute := by
  have hbridges : bridgeList.foldl State.zeroMinute t = t :=
    List.foldl_fixed' (fun b => State.zeroMinute_before (hzeros b)) _
  simp only [State.minute, ht, State.durationTest_below hw hx hlimit, State.expireWindows_left hdeadlines, hbridges]

end

/-- Settles O30: a deadline by `State.expireWindow_due`, the running minutes by `State.durationTest`'s three cases. -/
theorem windowLimitsCloseExtendOrVoid : Obligations.WindowLimitsCloseExtendOrVoid := by
  refine ⟨fun s n w hcanon hw => ⟨fun hs d hd hle => ?_, fun hleft => ?_⟩, fun s w hw hlimit => ⟨fun hopen => ?_,
    fun hopen hx => ?_, fun hopen hx => ?_⟩⟩
  · obtain ⟨-, -, hwf, -, -⟩ := hcanon
    have hdue := State.expireWindow_due hwf hw (State.deadlinePassed_iff.mpr ⟨hs, d, hd, hle⟩)
    exact congrArg (fun t : State => Host.Outcome.next t.settleLink) hdue
  · have hkept : s.expireWindow n = s := by
      refine State.expireWindow_left fun v hv => ?_
      obtain rfl := Option.some.inj (hw.symm.trans hv)
      rw [Bool.eq_false_iff, ne_eq, State.deadlinePassed_iff]
      rintro ⟨hclosed, d, hd, hle⟩
      rcases hleft with hs | ⟨d', hd', hlt⟩
      · exact hs hclosed
      · obtain rfl := Option.some.inj (hd.symm.trans hd')
        omega
    exact congrArg (fun t : State => Host.Outcome.next t.settleLink) hkept
  · exact congrArg (fun t : State => Host.Outcome.next t.settleLink) (State.durationTest_closes hw hlimit hopen)
  · obtain ⟨hextends, -⟩ := State.durationTest_extends hw hlimit hopen
    exact congrArg (fun t : State => Host.Outcome.next t.settleLink) (hextends hx)
  · obtain ⟨-, hkept⟩ := State.durationTest_extends hw hlimit hopen
    exact congrArg (fun t : State => Host.Outcome.next t.settleLink) (hkept hx)

/-- Settles O58, by `State.minute_quiet` for each level of TR. -/
theorem minutesAreCounted : Obligations.MinutesAreCounted := by
  intro s w hcanon hminutes hw hrunning hx hlimit hdeadlines hzeros later marked
  obtain ⟨-, -, hwf, -, -⟩ := hcanon
  have hlater : ({ s with clock := { s.clock with minutes := add32 s.clock.minutes 1 } } : State) = later := by
    rw [add32_fits hminutes]
  have hdue (n : Nat) (v : Window) (hv : s.window? n = some v) : later.deadlinePassed v = false := by
    rw [Bool.eq_false_iff, ne_eq, State.deadlinePassed_iff]
    rintro ⟨hclosed, d, hd, hle⟩
    exact absurd (hdeadlines n v d hv hclosed hd) (Nat.not_lt.mpr hle)
  refine ⟨fun hhigh => ?_, fun hlow => ?_⟩
  · let t : State := later.modWindow s.windows.counter fun w => { w with running := w.running + 1 }
    have ht : later.countMinute = t := by
      have hrun : later.running = true := by rw [State.running, hhigh]; rfl
      exact (if_pos hrun).trans (State.modWindow_congr (s := later) hwf hw (by rw [add32_fits hrunning]))
    have hquiet : s.minute = t.clockMinute := by
      refine State.minute_quiet (w := { w with running := w.running + 1 }) (hlater ▸ ht) ?_ hx hlimit ?_ hzeros
      · exact (State.modWindow_window? (s := later) s.windows.counter _).trans (congrArg _ hw)
      · intro n v hv
        obtain ⟨v', hv', rfl⟩ := State.window?_of_modWindow hv
        split
        · exact (State.deadlinePassed_congr rfl rfl rfl).trans (hdue n v' hv')
        · exact hdue n v' hv'
    exact congrArg (fun t : State => Host.Outcome.next t.settleLink) hquiet
  · let t : State := { later with shift := { s.shift with acc := { s.shift.acc with
      stoppage := s.shift.acc.stoppage.plus 1 } } }
    have ht : later.countMinute = t := by
      have hrun : later.running = false := by
        rw [State.running, beq_eq_false_iff_ne]
        exact hlow
      rw [State.countMinute, hrun]
      rfl
    have hquiet : s.minute = t.clockMinute :=
      State.minute_quiet (hlater ▸ ht) hw hx (Nat.lt_of_succ_lt hlimit) hdue hzeros
    exact congrArg (fun t : State => Host.Outcome.next t.settleLink) hquiet

end Sys2Proof.Machine

/-! SUPPORT. What a close leaves of the shift; the shift mark and its record. -/
namespace Sys2Proof.Machine

open Sys2Proof

section

variable {s : State}

/-! ## What a close leaves of the shift (R49, R52) -/

/-- A shift's figures with its count of windows closed as given (R161). -/
def ShiftUnit.withWindows (u : ShiftUnit) (a : Acc) : ShiftUnit := { u with acc := { u.acc with windows := a } }

/-- A close changes nothing of the shift but its count of windows closed (R49). -/
theorem State.closeWindow_shift (s : State) (shift : Nat) :
    ∃ a, (s.closeWindow shift).shift = s.shift.withWindows a := by
  unfold State.closeWindow
  extract_lets n time
  split
  · exact ⟨s.shift.acc.windows, rfl⟩
  · extract_lets s₁ s₂ s₃
    have h₁ : s₁.shift = s.shift := by
      unfold s₁
      split
      · exact State.voidWindow_shift _ _ _
      · rfl
    have h₃ : s₃.shift = s.shift.withWindows (s.shift.acc.windows.plus 1) := by
      rw [State.tally_shift, State.openWindow_shift, h₁]
      rfl
    refine ⟨s.shift.acc.windows.plus 1, ?_⟩
    split
    · exact (State.notify_shift _ _).trans h₃
    · exact h₃

theorem State.extendWindow_shift (s : State) : s.extendWindow.shift = s.shift := by
  unfold State.extendWindow
  repeat' split
  all_goals rfl

theorem State.triggerClose_shift (s : State) (shift : Nat) :
    ∃ a, (s.triggerClose shift).shift = s.shift.withWindows a := by
  unfold State.triggerClose
  split
  · exact s.closeWindow_shift shift
  · exact ⟨s.shift.acc.windows, s.extendWindow_shift⟩

theorem State.closeWindow_beside (s : State) (shift : Nat) : (s.closeWindow shift).beside = s.beside :=
  ((State.KeptBelow.refl (Nat.zero_le _)).closeWindow shift).1

theorem State.extendWindow_beside (s : State) : s.extendWindow.beside = s.beside := by
  unfold State.extendWindow
  repeat' split
  all_goals rfl

theorem State.triggerClose_clock (s : State) (shift : Nat) : (s.triggerClose shift).clock = s.clock := by
  have hbeside : (s.triggerClose shift).beside = s.beside := by
    unfold State.triggerClose
    split
    · exact s.closeWindow_beside shift
    · exact s.extendWindow_beside
  simp only [State.beside, Prod.mk.injEq] at hbeside
  obtain ⟨-, -, -, -, -, hclock, -⟩ := hbeside
  exact hclock

/-! ## SHIFT MARK (R162, R163) -/

theorem State.markLetter_eq {code : Nat} {letter : Letter}
    (h : (code = 1 ∧ letter = .a) ∨ (code = 2 ∧ letter = .b) ∨ (code = 3 ∧ s.shift.lastLetter = some letter)) :
    s.markLetter code = .ok letter := by
  rcases h with ⟨rfl, rfl⟩ | ⟨rfl, rfl⟩ | ⟨rfl, hl⟩
  · rfl
  · rfl
  · simp only [State.markLetter, hl]

theorem decideShiftMark_take {code : Nat} {letter : Letter} (hletter : s.markLetter code = .ok letter)
    (howed : s.shift.owed = none) (hstate : s.store.state ≠ .failed) (hfree : s.store.reserved + 1 ≤ s.free)
    (hfits : fits32 (s.shift.number + 1)) :
    let r := s.reserve 1
    let c := r.triggerClose (s.shift.number + 1)
    decideShiftMark code s = .take
      (c.beginShift letter (s.shift.number + 1) (c.shiftBody s.windows.counter (!r.canOpen)))
      (.shiftMarked (s.shift.number + 1) letter s.windows.counter (!r.canOpen)) := by
  intro r c
  simp only [decideShiftMark, hletter, howed, State.reservationRefusal_none 1 hstate hfree, add32_fits hfits]
  rfl

/-- The new shift, from figures that no close has changed (R163). -/
theorem State.beginShift_eq {c : State} {a : Acc} (hshift : c.shift = s.shift.withWindows a)
    (hclock : c.clock = s.clock) (letter : Letter) (number window : Nat) (extended : Bool) :
    let body : ShiftBody :=
      { number := s.shift.number, letter := s.shift.letter, start := s.shift.start, finish := s.clock.reading
        acc := c.shift.acc, window := window, extended := extended }
    c.beginShift letter number (c.shiftBody window extended) = State.requestWrite
      { c with
          shift := { c.shift with
            working := s.shift.shadow letter, number := number, letter := some letter, start := s.clock.reading
            lastLetter := some letter, acc := Accumulators.zeros, owed := some (.shift body) }
          windows := { c.windows with sumCanePol := 0, sumCaneBrix := 0, sumCane := 0 } }
      .shiftUnit (.shift body) := by
  have hshadow : c.shift.shadow letter = s.shift.shadow letter := by
    rw [hshift]
    cases letter <;> rfl
  have hbody : c.shiftBody window extended =
      { number := s.shift.number, letter := s.shift.letter, start := s.shift.start, finish := s.clock.reading
        acc := c.shift.acc, window := window, extended := extended } := by
    rw [State.shiftBody, State.now, hclock, hshift]
    rfl
  rw [State.beginShift, State.now, hshadow, hbody, hclock]

end

/-- Settles O40: the completion by `State.completeWrite_lone`, the mark by `decideShiftMark_take` and
`State.beginShift_eq`. -/
theorem shiftMarksBeginANewShift : Obligations.ShiftMarksBeginANewShift := by
  refine ⟨fun s f x hl hreq => ?_, fun s tag code letter hready hletter howed hstate hfree hfits => ?_⟩
  · have hshift : (s.recorded f).requesterComplete f.record.sequence f.request =
        (s.recorded f).shiftComplete f.record.sequence x := by
      simp only [State.requesterComplete, hreq]
    have hdone := State.completeWrite_lone hl hshift (by simp [State.shiftComplete])
    refine congrArg (fun t : State => Host.Outcome.next t.settleLink) (hdone.trans ?_)
    exact (State.notify_withStore _ _).symm
  · intro r extends_ c body z
    obtain ⟨a, hshift⟩ := r.triggerClose_shift (s.shift.number + 1)
    rw [State.reserve_shift] at hshift
    have hclock : c.clock = s.clock := (r.triggerClose_clock _).trans (s.reserve_clock 1)
    have hmark : c.beginShift letter (s.shift.number + 1) (c.shiftBody s.windows.counter extends_) = _ :=
      State.beginShift_eq hshift hclock letter (s.shift.number + 1) s.windows.counter extends_
    have htake : decideShiftMark code s = _ :=
      decideShiftMark_take (State.markLetter_eq hletter) howed hstate hfree hfits
    have hexec := exec_taken (tag := tag) (kind := 0xC2) hready (.shiftMark code) htake rfl
    refine (hexec.trans (congrArg (fun t : State => Host.Outcome.next (t.okReply _ _ _)) hmark)).trans ?_
    cases letter <;> rfl

end Sys2Proof.Machine

/-! SUPPORT. The posting of a grower at a SETTLE record's completion, and the releases that follow. -/
namespace Sys2Proof.Machine

open Sys2Proof

/-! ## The grower's account (R89) -/

theorem addSaturating_eq (a b : Nat) :
    addSaturating a b = (if a + b ≤ 4294967295 then a + b else 4294967295, decide (4294967295 < a + b)) := by
  have hmax : Config.max32 = 4294967295 := rfl
  unfold addSaturating
  rw [hmax]
  split
  · next h => rw [decide_eq_false (Nat.not_lt.mpr h)]
  · next h => rw [decide_eq_true (Nat.not_le.mp h)]

section

variable {s t : State}

theorem State.modGrower_grower? (g m : Nat) (f : Grower → Grower) :
    (s.modGrower g f).grower? m = if m = g then (s.grower? m).map f else s.grower? m := Table.find_modify _ _ _ _

/-! ## The references given up (R64) -/

/-- One reference fewer on each window of a list. -/
def Table.dropReferences (t : Table Window) (l : List Nat) : Table Window :=
  l.foldl (fun t n => t.modify n fun w => { w with refs := w.refs - 1 }) t

theorem Table.find_dropReferences_of_notMem {t : Table Window} {l : List Nat} {m : Nat} (h : m ∉ l) :
    (t.dropReferences l).find m = t.find m := by
  induction l generalizing t with
  | nil => rfl
  | cons n l ih =>
    rw [List.mem_cons, not_or] at h
    obtain ⟨hn, hl⟩ := h
    exact (ih hl).trans (Table.find_modify_other _ _ hn)

theorem Table.find_dropReferences_singleton (t : Table Window) (n : Nat) :
    (t.dropReferences [n]).find n = (t.find n).map fun w => { w with refs := w.refs - 1 }  := by
  simp only [Table.dropReferences, List.foldl, Table.find_modify_self]

/-- A window's other figures stand whatever references it gives up. -/
theorem Table.find_of_dropReferences {t : Table Window} {l : List Nat} {m : Nat} {v : Window}
    (h : (t.dropReferences l).find m = some v) : ∃ w k, t.find m = some w ∧ v = { w with refs := k } := by
  induction l generalizing t with
  | nil => exact ⟨v, v.refs, h, rfl⟩
  | cons n l ih =>
    obtain ⟨w, k, hw, hv⟩ := ih h
    rw [Table.find_modify] at hw
    split at hw
    · obtain ⟨w', hw', rfl⟩ := Option.map_eq_some_iff.mp hw
      exact ⟨w', k, hw', hv⟩
    · exact ⟨w, k, hw, hv⟩

theorem State.foldl_dropReference (l : List Nat) (s : State) : l.foldl State.dropReference s =
    { s with windows := { s.windows with records := s.windows.records.dropReferences l } } := by
  induction l generalizing s with
  | nil => rfl
  | cons n l ih => exact ih (s.dropReference n)

theorem State.posted_eq (s : State) (sequence : Nat) (b : SettleBody) : s.posted sequence b = { s with
    growers := Table.modify s.growers b.record.grower fun g => g.post b.figures b.netting.net sequence
    shift := { s.shift with acc := { s.shift.acc with
      net := s.shift.acc.net.plus b.netting.net, payable := s.shift.acc.payable.plus b.figures.payable
      deliveries := s.shift.acc.deliveries.plus 1 } }
    windows := { s.windows with records := s.windows.records.dropReferences (partWindows b.record.parts) }
    dt := { s.dt with records := s.dt.records.drop b.delivery } } := by
  simp only [State.posted, State.foldl_dropReference]
  rfl

/-! ## The releases (R65) -/

/-- The OPEN window, if there is one, is not EXTENDED. -/
def State.notExtended (s : State) : Prop := ∀ v, s.window? s.windows.counter = some v → v.extended = false

/-- What the release tests of the windows in a list leave of a state: all beside the window table, the deliveries, the
shift but for its count of windows closed, and every other window below the OPEN one; where that one is not EXTENDED,
the link too. -/
structure State.Released (l : List Nat) (s t : State) : Prop where
  beside : t.beside = s.beside
  dt : t.dt = s.dt
  shift : ∃ a, t.shift = s.shift.withWindows a
  counter : s.windows.counter ≤ t.windows.counter
  window? : ∀ m, m ∉ l → m < s.windows.counter → t.window? m = s.window? m
  link : s.notExtended → t.notExtended ∧ t.link = s.link

theorem State.Released.refl (l : List Nat) (s : State) : State.Released l s s :=
  ⟨rfl, rfl, ⟨s.shift.acc.windows, rfl⟩, le_rfl, fun _ _ _ => rfl, fun h => ⟨h, rfl⟩⟩

theorem State.Released.trans {l₁ l₂ : List Nat} {u : State} (h₁ : State.Released l₁ s t)
    (h₂ : State.Released l₂ t u) : State.Released (l₁ ++ l₂) s u where
  beside := h₂.beside.trans h₁.beside
  dt := h₂.dt.trans h₁.dt
  shift := by
    obtain ⟨a, ha⟩ := h₁.shift
    obtain ⟨b, hb⟩ := h₂.shift
    exact ⟨b, by rw [hb, ha]; rfl⟩
  counter := h₁.counter.trans h₂.counter
  window? := fun m hm hlt => by
    rw [List.mem_append, not_or] at hm
    obtain ⟨hm₁, hm₂⟩ := hm
    exact (h₂.window? m hm₂ (hlt.trans_le h₁.counter)).trans (h₁.window? m hm₁ hlt)
  link := fun h => by
    obtain ⟨ht, hlink⟩ := h₁.link h
    obtain ⟨hu, hlink'⟩ := h₂.link ht
    exact ⟨hu, hlink'.trans hlink⟩

theorem State.closeRetest_released (s : State) : State.Released [] s s.closeRetest := by
  obtain ⟨hbeside, hdt, hcounter, hbelow⟩ := (State.KeptBelow.refl (s := s) le_rfl).closeRetest
  refine ⟨hbeside, hdt, ?_, hcounter, fun m _ hlt => hbelow m hlt, fun h => ?_⟩
  · unfold State.closeRetest
    split
    · exact s.closeWindow_shift _
    · exact ⟨s.shift.acc.windows, rfl⟩
  · rw [State.closeRetest_of_not_extended h]
    exact ⟨h, rfl⟩

theorem State.withoutWindow_released (s : State) (n : Nat) : State.Released [n] s (s.withoutWindow n) := by
  refine ⟨rfl, rfl, ⟨s.shift.acc.windows, rfl⟩, le_rfl, fun m hm _ => ?_, fun h => ⟨fun v hv => ?_, rfl⟩⟩
  · rw [State.withoutWindow_window?, if_neg (List.mem_singleton.not.mp hm)]
  · rw [State.withoutWindow_window?] at hv
    split at hv
    · cases hv
    · exact h v hv

theorem State.releaseTest_released (s : State) (n : Nat) : State.Released [n] s (s.releaseTest n) := by
  unfold State.releaseTest
  split
  · exact .refl _ s
  · split
    · exact (s.withoutWindow_released n).trans (State.closeRetest_released _)
    · exact .refl _ s

theorem State.foldl_releaseTest_released (l : List Nat) (s : State) :
    State.Released l s (l.foldl State.releaseTest s) := by
  induction l generalizing s with
  | nil => exact .refl _ s
  | cons n l ih => exact (s.releaseTest_released n).trans (ih _)

theorem State.releaseTest_unsettled {n : Nat} {w : Window} (hw : s.window? n = some w) (h : w.settled = false) :
    s.releaseTest n = s := by
  simp [State.releaseTest, hw, h]

/-- A window that gives up a reference is released when that was its last and it is final and written (R64, R65). -/
theorem State.releaseTest_dropReference {n : Nat} {w : Window}
    (hw : s.window? n = some { w with refs := w.refs - 1 }) (hn : n < s.windows.counter) :
    (w.settled = true ∧ w.refs ≤ 1 → (s.releaseTest n).window? n = none) ∧
    (w.settled = false ∨ 1 < w.refs → (s.releaseTest n).window? n = some { w with refs := w.refs - 1 }) := by
  cases hset : w.settled with
  | false =>
    rw [State.releaseTest_unsettled hw hset]
    exact ⟨fun ⟨h, _⟩ => absurd h Bool.false_ne_true, fun _ => hw⟩
  | true =>
    obtain ⟨-, -, hfreed, hkept, -⟩ := State.releaseTest_effect hw hset hn
    refine ⟨fun ⟨_, hrefs⟩ => hfreed (Nat.sub_eq_zero_of_le hrefs), ?_⟩
    rintro (h | hrefs)
    · cases h
    · exact hkept (Nat.sub_ne_zero_of_lt hrefs)

/-- A window that gives up references is EXTENDED as it was. -/
theorem State.notExtended_posted (h : s.notExtended) (sequence : Nat) (b : SettleBody) :
    (s.posted sequence b).notExtended := by
  intro v hv
  rw [State.posted_eq] at hv
  obtain ⟨w, k, hw, rfl⟩ := Table.find_of_dropReferences hv
  exact h w hw

theorem State.posted_window? (sequence : Nat) (b : SettleBody) (m : Nat) :
    (s.posted sequence b).window? m =
      (s.windows.records.dropReferences (partWindows b.record.parts)).find m := by
  rw [State.posted_eq]
  rfl

/-! ## The completion of a SETTLE record (R81) -/

/-- The state beside the window table, the deliveries, the shift and the link after a SETTLE record's completion. -/
theorem State.settleComplete_units (s : State) (sequence : Nat) (b : SettleBody) :
    let q := s.settleComplete sequence b
    q.beside = (s.modGrower b.record.grower fun g => g.post b.figures b.netting.net sequence).beside ∧
      (∀ m, q.delivery? m = if m = b.delivery then none else s.delivery? m) ∧
      (∃ a, q.shift = ShiftUnit.withWindows { s.shift with acc := { s.shift.acc with
        net := s.shift.acc.net.plus b.netting.net
        payable := s.shift.acc.payable.plus b.figures.payable
        deliveries := s.shift.acc.deliveries.plus 1 } } a) ∧
      (s.notExtended → q.link = (s.notify (.settled sequence b)).link) := by
  intro q
  obtain ⟨hbeside, hdt, ⟨a, hshift⟩, -, -, hlink⟩ :=
    State.foldl_releaseTest_released (partWindows b.record.parts) (s.posted sequence b)
  have hq : q = State.notify _ _ := s.settleComplete_eq sequence b
  rw [hq]
  refine ⟨?_, fun m => ?_, ⟨a, ?_⟩, fun h => ?_⟩
  · rw [State.notify_beside, hbeside, State.posted_eq]
    rfl
  · rw [State.delivery?, State.notify_dt, hdt, State.posted_eq]
    exact Table.find_drop _ _ _
  · rw [State.notify_shift, hshift, State.posted_eq]
  · obtain ⟨-, hkept⟩ := hlink (State.notExtended_posted h sequence b)
    refine State.notify_link_congr (hkept.trans ?_) _
    rw [State.posted_eq]

/-- The windows below the OPEN one after a SETTLE record's completion (R64, R65). -/
theorem State.settleComplete_windows (s : State) (sequence : Nat) (b : SettleBody) :
    let q := s.settleComplete sequence b
    (∀ m, (∀ p ∈ b.record.parts, p.window ≠ m) → m < s.windows.counter → q.window? m = s.window? m) ∧
    (∀ p w, b.record.parts = [p] → p.window < s.windows.counter → s.window? p.window = some w →
      (w.settled = true ∧ w.refs ≤ 1 → q.window? p.window = none) ∧
      (w.settled = false ∨ 1 < w.refs → q.window? p.window = some { w with refs := w.refs - 1 })) := by
  intro q
  have hcounter : (s.posted sequence b).windows.counter = s.windows.counter := by rw [State.posted_eq]
  have hwindow (m : Nat) : q.window? m =
      ((partWindows b.record.parts).foldl State.releaseTest (s.posted sequence b)).window? m := by
    rw [State.window?, show q = _ from s.settleComplete_eq sequence b, State.notify_windows]
    rfl
  refine ⟨fun m hm hlt => ?_, fun p w hparts hlt hw => ?_⟩
  · have hother : m ∉ partWindows b.record.parts := by simpa [partWindows] using hm
    have hreleased := State.foldl_releaseTest_released (partWindows b.record.parts) (s.posted sequence b)
    rw [hwindow, hreleased.window? m hother (by rwa [hcounter]), State.posted_window?]
    exact Table.find_dropReferences_of_notMem hother
  · have hone : partWindows b.record.parts = [p.window] := by simp [partWindows, hparts]
    have hdropped : (s.posted sequence b).window? p.window = some { w with refs := w.refs - 1 } := by
      rw [State.posted_window?, hone, Table.find_dropReferences_singleton]
      exact congrArg _ hw
    rw [hwindow, hone]
    exact State.releaseTest_dropReference hdropped (by rwa [hcounter])

end

/-- Settles O53: `State.settleComplete_units` and `State.settleComplete_windows` between the port's steps. -/
theorem settlementsPostTheGrower : Obligations.SettlementsPostTheGrower := by
  intro s f n x y hinput hs hf hreq hx htickets hshared hwaiting hy sum
  let r := (s.recorded f).settleComplete f.record.sequence x
  have hr : (s.recorded f).requesterComplete f.record.sequence f.request = r := by
    simp only [State.requesterComplete, hreq]
    rfl
  let u := State.startNext { r with store := { r.store with inFlight := none } }
  have hdone : s.completeWrite = u := (State.completeWrite_eq hs hf).trans (by rw [hr])
  obtain ⟨hbeside, hdelivery, ⟨a, hshift⟩, hlink⟩ := (s.recorded f).settleComplete_units f.record.sequence x
  obtain ⟨hothers, hone⟩ := (s.recorded f).settleComplete_windows f.record.sequence x
  have hu : u.beside = _ := (State.startNext_beside _).trans hbeside
  simp only [State.beside, Prod.mk.injEq] at hu
  obtain ⟨hbridges, hchannels, hvehicles, hfeed, hgrowers, hclock, hpending, hsequence, hport⟩ := hu
  let t := u.settleLink
  have ht : t = u.pump := u.settleLink_of_empty (hport.trans hinput)
  have hgrower (m : Nat) : t.grower? m =
      (s.modGrower x.record.grower fun g => g.post x.figures x.netting.net f.record.sequence).grower? m := by
    rw [ht, State.grower?, State.pump_growers, hgrowers]
    rfl
  have htshift : t.shift = r.shift := by rw [ht, State.pump_shift, State.startNext_shift]
  have htdelivery (m : Nat) : t.delivery? m = r.delivery? m := by
    rw [ht, State.delivery?, State.pump_dt, State.startNext_dt]
    rfl
  have htwindow (m : Nat) : t.window? m = r.window? m := by
    rw [ht, State.window?, State.pump_windows, State.startNext_windows]
    rfl
  refine ⟨t, congrArg (fun t : State => Host.Outcome.next t.settleLink) hdone, ?_, fun m hm => ?_, fun m => ?_, ?_, ?_,
    ?_, ?_, fun hopen => ⟨u, rfl, ?_⟩, fun m hm hlt => ?_, fun p w hp hlt hw => ?_, ?_⟩
  · rw [hgrower, State.modGrower_grower?, if_pos rfl, hy]
    simp only [Option.map_some, Grower.post, addSaturating_eq]
    rfl
  · rw [hgrower, State.modGrower_grower?, if_neg hm]
  · rw [htdelivery, ← hx]
    exact hdelivery m
  · rw [htshift, hshift]; rfl
  · rw [htshift, hshift]; rfl
  · rw [htshift, hshift]; rfl
  · rw [ht, State.pump_store]; exact hsequence
  · rw [State.startNext_link]
    exact (hlink hopen).trans (State.notify_link_congr (s := s.recorded f) (t := s) rfl _)
  · rw [htwindow]; exact hothers m hm hlt
  · rw [htwindow]; exact hone p w hp hlt hw
  · simp only [ht, State.pump_vehicles, State.pump_feed, State.pump_bridges, State.pump_channels, State.pump_clock,
      State.pump_pending]
    exact ⟨hvehicles, hfeed, hbridges, hchannels, hclock, hpending⟩

end Sys2Proof.Machine

/-! SUPPORT. The decisions on the vehicle register's requests and on the growers' accounts. -/
namespace Sys2Proof.Machine

open Sys2Proof

section

variable {s : State}

/-! ## VEHICLE SET and VEHICLE DROP (R26, R27) -/

section

variable {v cls : Nat} {y : Vehicle}

theorem decideVehicleSet_badField (h : v = 0 ∨ 3 < cls) : decideVehicleSet v cls s = .refuse .badField := if_pos h

/-- VEHICLE SET of good fields, by the record that the code has (R26). -/
theorem decideVehicleSet_eq (hv : 1 ≤ v) (hcls : cls ≤ 3) :
    (∀ y, s.vehicle? v = some y → decideVehicleSet v cls s =
      .take { s with vehicles := Table.put s.vehicles v { y with cls := cls } } (.vehicle v { y with cls := cls })) ∧
    (s.vehicle? v = none →
      (128 ≤ s.vehicles.length → decideVehicleSet v cls s = .refuse .full) ∧
      (s.vehicles.length < 128 → decideVehicleSet v cls s =
        .take { s with vehicles := Table.put s.vehicles v { cls := cls, stored := none, uses := 0 } }
          (.vehicle v { cls := cls, stored := none, uses := 0 }))) := by
  have hgood : ¬ (v = 0 ∨ 3 < cls) := by omega
  unfold decideVehicleSet
  rw [if_neg hgood]
  refine ⟨fun y hy => by simp only [hy], fun hnone => ?_⟩
  simp only [hnone]
  exact ⟨fun hfull => if_pos hfull, fun hroom => if_neg (Nat.not_le.mpr hroom)⟩

theorem State.bindingNamesVehicle_iff :
    s.bindingNamesVehicle v = true ↔ ∃ b x, (s.bridge b).binding = some x ∧ x.vehicle = v := by
  have hall (b : BridgeNo) : b ∈ bridgeList := by cases b <;> decide
  unfold State.bindingNamesVehicle
  simp only [List.any_eq_true, hall, true_and]
  refine exists_congr fun b => ?_
  cases (s.bridge b).binding with
  | none => simp
  | some x => simp

/-- A delivery or a binding names the vehicle, so that it cannot be dropped (R27). -/
def State.vehicleNamed (s : State) (v : Nat) : Prop :=
  (∃ p ∈ s.dt.records, p.2.vehicle = v) ∨ ∃ b x, (s.bridge b).binding = some x ∧ x.vehicle = v

theorem State.vehicleNamed_iff :
    ((s.dt.records.any fun p => p.2.vehicle == v) || s.bindingNamesVehicle v) = true ↔ s.vehicleNamed v := by
  rw [Bool.or_eq_true, State.bindingNamesVehicle_iff, List.any_eq_true]
  simp only [beq_iff_eq, State.vehicleNamed]

theorem decideVehicleDrop_notFound (hv : 1 ≤ v) (hnone : s.vehicle? v = none) :
    decideVehicleDrop v s = .refuse .notFound := by
  unfold decideVehicleDrop
  rw [if_neg (Nat.ne_of_gt hv), if_pos (by rw [hnone]; rfl)]

/-- VEHICLE DROP of a vehicle in the register, by whether it is named (R27). -/
theorem decideVehicleDrop_eq (hv : 1 ≤ v) (hy : s.vehicle? v = some y) :
    (s.vehicleNamed v → decideVehicleDrop v s = .refuse .inUse) ∧
    (¬ s.vehicleNamed v → decideVehicleDrop v s = .take { s with vehicles := Table.drop s.vehicles v } .none) := by
  unfold decideVehicleDrop
  rw [if_neg (Nat.ne_of_gt hv), if_neg (by simp [hy])]
  exact ⟨fun h => if_pos (State.vehicleNamed_iff.mpr h), fun h => if_neg (mt State.vehicleNamed_iff.mp h)⟩

end

/-! ## GROWER SET, GROWER DROP and GROWER QUERY (R85 to R87) -/

section

variable {g f : Nat} {y : Grower}

theorem growerBad_iff : growerBad g = true ↔ g = 0 ∨ 9999 < g := by simp [growerBad]

theorem growerBad_ok (h1 : 1 ≤ g) (h2 : g ≤ 9999) : ¬ growerBad g = true := by
  rw [growerBad_iff]
  omega

theorem decideGrowerSet_badField (h : g = 0 ∨ 9999 < g ∨ f < 80 ∨ 250 < f) :
    decideGrowerSet g f s = .refuse .badField :=
  if_pos (by rwa [growerBad_iff, or_assoc])

/-- GROWER SET of good fields, by the record that the code has (R85). -/
theorem decideGrowerSet_eq (h1 : 1 ≤ g) (h2 : g ≤ 9999) (h80 : 80 ≤ f) (h250 : f ≤ 250) :
    (∀ y, s.grower? g = some y → decideGrowerSet g f s =
      .take { s with growers := Table.put s.growers g { y with fibre := f } } (.grower g { y with fibre := f })) ∧
    (s.grower? g = none →
      (240 ≤ s.growers.length → decideGrowerSet g f s = .refuse .full) ∧
      (s.growers.length < 240 → decideGrowerSet g f s =
        .take { s with growers := Table.put s.growers g (Grower.fresh f) } (.grower g (Grower.fresh f)))) := by
  have hgood : ¬ (growerBad g = true ∨ f < 80 ∨ 250 < f) := by
    rw [growerBad_iff]
    omega
  unfold decideGrowerSet
  rw [if_neg hgood]
  refine ⟨fun y hy => by simp only [hy], fun hnone => ?_⟩
  simp only [hnone]
  exact ⟨fun hfull => if_pos hfull, fun hroom => if_neg (Nat.not_le.mpr hroom)⟩

theorem decideGrowerDrop_badField (h : g = 0 ∨ 9999 < g) : decideGrowerDrop g s = .refuse .badField :=
  if_pos (growerBad_iff.mpr h)

/-- GROWER DROP of a good code, by the record that it has (R86). -/
theorem decideGrowerDrop_eq (h1 : 1 ≤ g) (h2 : g ≤ 9999) :
    (s.grower? g = none → decideGrowerDrop g s = .refuse .notFound) ∧
    ∀ y, s.grower? g = some y →
      (0 < y.openCount ∨ 0 < y.settled → decideGrowerDrop g s = .refuse .inUse) ∧
      (y.openCount = 0 → y.settled = 0 →
        decideGrowerDrop g s = .take { s with growers := Table.drop s.growers g } .none) := by
  unfold decideGrowerDrop
  rw [if_neg (growerBad_ok h1 h2)]
  refine ⟨fun hnone => by simp only [hnone], fun y hy => ?_⟩
  simp only [hy]
  exact ⟨fun hused => if_pos hused, fun hopen hsettled => if_neg (by omega)⟩

theorem decideGrowerQuery_badField (h : g = 0 ∨ 9999 < g) : decideGrowerQuery g s = .refuse .badField :=
  if_pos (growerBad_iff.mpr h)

/-- GROWER QUERY of a good code, by the record that it has (R87). -/
theorem decideGrowerQuery_eq (h1 : 1 ≤ g) (h2 : g ≤ 9999) :
    (s.grower? g = none → decideGrowerQuery g s = .refuse .notFound) ∧
    ∀ y, s.grower? g = some y → decideGrowerQuery g s = .take s (.grower g y) := by
  unfold decideGrowerQuery
  rw [if_neg (growerBad_ok h1 h2)]
  exact ⟨fun hnone => by simp only [hnone], fun y hy => by simp only [hy]⟩

end

end

/-- Settles O26, request by request. VEHICLE DROP's two clauses are the two sides of `State.vehicleNamed`. -/
theorem vehiclesAndGrowersAreSet : Obligations.VehiclesAndGrowersAreSet := by
  refine ⟨fun s tag v h hv => ?_, fun s tag g f h => ?_⟩
  · refine ⟨fun cls y hcls hy => ?_, fun cls hcls hnone hroom => ?_, fun cls hcls hnone hfull => ?_,
      fun cls hcls => exec_refused h (.vehicleSet v cls) (decideVehicleSet_badField (.inr hcls)) rfl, fun y hy => ?_,
      fun hnone => exec_refused h (.vehicleDrop v) (decideVehicleDrop_notFound hv hnone) rfl⟩
    · obtain ⟨hchanged, -⟩ := decideVehicleSet_eq (s := s) hv hcls
      exact exec_taken h (.vehicleSet v cls) (hchanged y hy) rfl
    · obtain ⟨-, hnew⟩ := decideVehicleSet_eq (s := s) hv hcls
      obtain ⟨-, hregistered⟩ := hnew hnone
      exact exec_taken h (.vehicleSet v cls) (hregistered hroom) rfl
    · obtain ⟨-, hnew⟩ := decideVehicleSet_eq (s := s) hv hcls
      obtain ⟨hrefused, -⟩ := hnew hnone
      exact exec_refused h (.vehicleSet v cls) (hrefused hfull) rfl
    · obtain ⟨hinUse, hdropped⟩ := decideVehicleDrop_eq hv hy
      refine ⟨fun hrecords hbindings => exec_taken h (.vehicleDrop v) (hdropped ?_) rfl,
        fun hnamed => exec_refused h (.vehicleDrop v) (hinUse hnamed) rfl⟩
      rintro (⟨p, hp, hpv⟩ | ⟨b, x, hx, hxv⟩)
      · exact hrecords p hp hpv
      · exact hbindings b x hx hxv
  · refine ⟨fun h1 h2 h80 h250 => ?_,
      fun hbad => exec_refused h (.growerSet g f) (decideGrowerSet_badField hbad) rfl⟩
    obtain ⟨hchanged, hnew⟩ := decideGrowerSet_eq (s := s) h1 h2 h80 h250
    refine ⟨fun y hy => exec_taken h (.growerSet g f) (hchanged y hy) rfl, fun hnone => ?_, fun hnone => ?_⟩
    all_goals obtain ⟨hrefused, htaken⟩ := hnew hnone
    · exact fun hroom => exec_taken h (.growerSet g f) (htaken hroom) rfl
    · exact fun hfull => exec_refused h (.growerSet g f) (hrefused hfull) rfl

/-- Settles O27: the tests of `decideGrowerDrop_eq` and `decideGrowerQuery_eq`, and what a table holds after a drop. -/
theorem growersAreDroppedAndQueried : Obligations.GrowersAreDroppedAndQueried := by
  intro s tag g h
  refine ⟨fun hbad => ?_, fun h1 h2 hnone => ?_, fun h1 h2 y hy => ?_⟩
  · exact ⟨exec_refused h (.growerDrop g) (decideGrowerDrop_badField hbad) rfl,
      exec_refused h (.growerQuery g) (decideGrowerQuery_badField hbad) rfl⟩
  all_goals
    obtain ⟨hdropNone, hdropFound⟩ := decideGrowerDrop_eq (s := s) h1 h2
    obtain ⟨hqueryNone, hqueryFound⟩ := decideGrowerQuery_eq (s := s) h1 h2
  · exact ⟨exec_refused h (.growerDrop g) (hdropNone hnone) rfl,
      exec_refused h (.growerQuery g) (hqueryNone hnone) rfl⟩
  · obtain ⟨hinUse, hdropped⟩ := hdropFound y hy
    exact ⟨fun hused => exec_refused h (.growerDrop g) (hinUse hused) rfl,
      fun hopen hsettled => ⟨exec_taken h (.growerDrop g) (hdropped hopen hsettled) rfl,
        Table.find_drop s.growers g⟩,
      exec_taken h (.growerQuery g) (hqueryFound y hy) rfl⟩

end Sys2Proof.Machine

/-! SUPPORT. The rounding of the settlement figures. -/
namespace Sys2Proof.Machine

open Sys2Proof

/-! ## Rounding (R1) -/

/-- Rounding half up gives the whole number nearest to the quotient, the upper one of two. -/
theorem roundHalfUp_nearest (a : Nat) {b : Nat} (hb : 0 < b) :
    2 * b * roundHalfUp a b ≤ 2 * a + b ∧ 2 * a + b < 2 * b * (roundHalfUp a b + 1) :=
  ⟨Nat.mul_div_le _ _, Nat.lt_mul_div_succ _ (by omega)⟩

/-! ## The stages (R74 to R79) -/

theorem weighted_of_mass {parts : List SettlePart} (q : SettlePart → Nat) (h : 0 < (parts.map (·.kg)).sum) :
    weighted parts q = roundHalfUp (parts.map fun p => p.kg * q p).sum (parts.map (·.kg)).sum := if_pos h

theorem weighted_nominal {p : SettlePart} (q : SettlePart → Nat) (h : p.kg = 0) : weighted [p] q = q p := by
  simp [weighted, h]

section

variable (parts : List SettlePart) (fibre net : Nat)

/-- The cane factor takes the fibre and 40 from 1,000; no fibre of the table's range reaches the 960 (R75, R85). -/
theorem settleFigures_factor (h : fibre ≤ 250) : (settleFigures parts fibre net).factor + fibre = 960 := by
  show 1000 - fibre - 40 + fibre = 960
  omega

/-- What is deducted from polc: four tenths of what brixc has above it (R77). -/
def SettleFigures.deduction (f : SettleFigures) : Nat := roundHalfUp ((f.brixc - f.polc) * 4) 10

theorem settleFigures_rsf :
    let f := settleFigures parts fibre net
    f.rsf = f.polc - f.deduction ∧ f.lowQuality = decide (f.polc < f.deduction) := ⟨rfl, rfl⟩

/-- Payable sugar is floored to the kilogram (R78). -/
theorem settleFigures_payable :
    let f := settleFigures parts fibre net
    10000 * f.payable ≤ net * f.rsf ∧ net * f.rsf < 10000 * (f.payable + 1) :=
  ⟨Nat.mul_div_le _ _, Nat.lt_mul_div_succ _ (by decide)⟩

end

/-- Settles O55, figure by figure: each rounded one by `roundHalfUp_nearest`, LOW_QUALITY by `settleFigures_rsf`. -/
theorem settlementFiguresAreRoundedAsStated : Obligations.SettlementFiguresAreRoundedAsStated := by
  intro parts fibre net hfibre nearest f
  obtain ⟨hrsf, hlow⟩ : f.rsf = f.polc - f.deduction ∧ f.lowQuality = decide (f.polc < f.deduction) :=
    settleFigures_rsf parts fibre net
  have hweighted (q : SettlePart → Nat) (hmass : 0 < f.mass) :
      nearest (weighted parts q) (parts.map fun p => p.kg * q p).sum f.mass := by
    rw [weighted_of_mass q hmass]
    exact roundHalfUp_nearest _ hmass
  obtain ⟨hfloor, hbelow⟩ := settleFigures_payable parts fibre net
  refine ⟨rfl, settleFigures_factor parts fibre net hfibre,
    fun hmass => ⟨hweighted (·.brix) hmass, hweighted (·.pol) hmass⟩, fun p hmass hparts => ?_,
    roundHalfUp_nearest _ (by decide), roundHalfUp_nearest _ (by decide),
    ⟨f.deduction, roundHalfUp_nearest _ (by decide), fun hfalse => ?_, fun htrue => ?_⟩, hfloor, hbelow, rfl⟩
  · subst hparts
    have hkg : p.kg = 0 := hmass
    exact ⟨weighted_nominal (·.brix) hkg, weighted_nominal (·.pol) hkg⟩
  · have hcovered : ¬ f.polc < f.deduction := of_decide_eq_false (hlow.symm.trans hfalse)
    omega
  · have hshort : f.polc < f.deduction := of_decide_eq_true (hlow.symm.trans htrue)
    exact ⟨by omega, hshort⟩

end Sys2Proof.Machine

/-! SUPPORT. The bridges' states, their lamps and the beacon: what every operation keeps of the three invariants that
speak of them. -/
namespace Sys2Proof.Machine

open Sys2Proof

/-- What the invariants of the bridges, the lamps and the beacon read of a state (R94, R108, R114, R153). -/
def State.panel (s : State) : Quad Bridge × Quad Lamp × Quad Lamp × Bool × Attention :=
  (s.bridges, s.lines.entryLamp, s.lines.exitLamp, s.lines.al, s.link.flags)

/-- What `State.bridgesSound` asks of one bridge (R94, R108). -/
def Bridge.sound (x : Bridge) : Prop :=
  (x.state = .idle → x.present = false) ∧ (x.state = .locked → x.lockCause.isSome = true)

/-- What is kept of the three invariants on the way from one state to another. -/
structure PanelKept (r s : State) : Prop where
  beacon : r.beaconSound → s.beaconSound
  bridges : r.bridgesSound → s.bridgesSound
  lamps : r.lampsSound → s.lampsSound

/-! ## Bridges and lamps -/

theorem Bridge.sound_of_state {x : Bridge} (hi : x.state ≠ .idle) (hl : x.state ≠ .locked) : x.sound :=
  ⟨fun h => absurd h hi, fun h => absurd h hl⟩

/-- A driven lamp shows its demand (R152). -/
theorem Lamp.drive_shows (l : Lamp) (d : LampDemand) : (l.drive d).shows d := by
  obtain ⟨safe, on⟩ := l
  cases d with
  | on | off => rfl
  | safe => cases safe <;> first | rfl | trivial

/-- A lamp that showed its demand shows it with its new safe value (R152). -/
theorem Lamp.setSafe_shows {l : Lamp} {d : LampDemand} (h : l.shows d) (v : SafeValue) : (l.setSafe v d).shows d := by
  cases d with
  | on | off => exact h
  | safe => exact Lamp.drive_shows _ _

theorem State.lampsSound.driveLamps {s : State} (h : s.lampsSound) {t : State} (b : BridgeNo)
    (hlines : t.lines = s.lines) (hbridges : ∀ c, c ≠ b → t.bridge c = s.bridge c) : (t.driveLamps b).lampsSound := by
  intro c
  by_cases hc : c = b
  · subst hc
    simp only [State.driveLamps, Quad.get_set]
    exact ⟨Lamp.drive_shows _ _, Lamp.drive_shows _ _⟩
  · have hb : (t.driveLamps b).bridge c = s.bridge c := hbridges c hc
    simp only [hb]
    simp only [State.driveLamps, Quad.get_set_ne _ _ hc, hlines]
    exact h c

/-- A changed bridge's lamps follow it (R114). -/
theorem State.lampsSound.modBridge {s : State} (h : s.lampsSound) (b : BridgeNo) (f : Bridge → Bridge) :
    (s.modBridge b f).lampsSound :=
  h.driveLamps b rfl fun _ hc => Quad.get_set_ne _ _ hc

theorem State.bridgesSound.modBridge {s : State} (h : ∀ c, c ≠ b → (s.bridge c).sound) {f : Bridge → Bridge}
    (hf : (f (s.bridge b)).sound) : (s.modBridge b f).bridgesSound := by
  intro c
  by_cases hc : c = b
  · subst hc
    rw [State.modBridge_bridge]
    exact hf
  · rw [State.modBridge_bridge_ne f hc]
    exact h c hc

@[simp] theorem Link.startStream_flags (l : Link) (n : SlotNo) (x : Stream) : (l.startStream n x).flags = l.flags := by
  unfold Link.startStream
  dsimp only
  split
  · exact Link.setStream_flags l n _
  · exact Link.setStream_flags l n _

@[simp] theorem Link.stopStream_flags (l : Link) (n : SlotNo) : (l.stopStream n).flags = l.flags := by
  unfold Link.stopStream
  dsimp only
  repeat' split
  all_goals exact Link.setStream_flags l n _

namespace PanelKept

theorem refl (s : State) : PanelKept s s := ⟨id, id, id⟩

section

variable {r s t : State} (h : PanelKept r s)

include h

/-- What leaves the panel as it is keeps it. -/
theorem congr (ht : t.panel = s.panel) : PanelKept r t := by
  simp only [State.panel, Prod.mk.injEq] at ht
  obtain ⟨hb, he, hx, ha, hf⟩ := ht
  have hbridge (b : BridgeNo) : t.bridge b = s.bridge b := congrArg (Quad.get · b) hb
  refine ⟨fun hr => ?_, fun hr b => ?_, fun hr b => ?_⟩
  · rw [State.beaconSound, ha, hf]
    exact h.beacon hr
  · rw [hbridge]
    exact h.bridges hr b
  · rw [he, hx, hbridge]
    exact h.lamps hr b

theorem ite {c : Prop} [Decidable c] (h' : PanelKept r t) : PanelKept r (if c then s else t) := by
  split
  · exact h
  · exact h'

theorem foldl {α : Type} {f : State → α → State} (hf : ∀ {u} a, PanelKept r u → PanelKept r (f u a)) (l : List α) :
    PanelKept r (l.foldl f s) :=
  List.foldlRecOn (motive := PanelKept r) l f h fun _ hu a _ => hf a hu

/-- A bridge's change keeps a sound bridge sound; its lamps are driven anew. -/
theorem modBridge {b : BridgeNo} {f : Bridge → Bridge}
    (hf : ∀ x : Bridge, x.sound → (f x).sound) : PanelKept r (s.modBridge b f) :=
  ⟨h.beacon, fun hr => State.bridgesSound.modBridge (fun c _ => h.bridges hr c) (hf _ (h.bridges hr b)),
    fun hr => (h.lamps hr).modBridge b f⟩

/-- New flags set AL anew (R153). -/
theorem setFlags (a : Attention) : PanelKept r (s.setFlags a) := ⟨fun _ => rfl, h.bridges, h.lamps⟩

theorem raise (f : Flag) : PanelKept r (s.raise f) := h.setFlags _

theorem notify (body : NoticeBody) : PanelKept r (s.notify body) := by
  have hlink {l : Link} (hl : l.flags = s.link.flags) : PanelKept r { s with link := l } :=
    h.congr (by simp only [State.panel, hl])
  unfold State.notify
  extract_lets n s₁
  refine ite (hlink (by rfl)) (ite ?_ ?_)
  · split
    · exact raise (hlink (by rfl)) _
    · exact raise (hlink (by rfl)) _
  · exact raise (hlink (by rfl)) _

theorem modChannel (b : BridgeNo) (f : Channel → Channel) : PanelKept r (s.modChannel b f) := h.congr (by rfl)

theorem modWindow (n : Nat) (f : Window → Window) : PanelKept r (s.modWindow n f) := h.congr (by rfl)

theorem modDelivery (n : Nat) (f : Delivery → Delivery) : PanelKept r (s.modDelivery n f) := h.congr (by rfl)

theorem tally (f : Accumulators → Accumulators) : PanelKept r (s.tally f) := h.congr (by rfl)

/-! ## The store -/

theorem judgeStore : PanelKept r s.judgeStore := by
  rcases State.judgeStore_cases (s := s) with hj | ⟨next, -, -, -, -, hj⟩
  · rw [hj]; exact h
  · rw [hj]
    have hn : PanelKept r { s with store := { s.store with state := next } } := h.congr (by rfl)
    exact ((hn.notify _).raise _).ite (hn.notify _)

theorem reserve (k : Nat) : PanelKept r (s.reserve k) := judgeStore (h.congr (by rfl))

theorem giveBack (k : Nat) : PanelKept r (s.giveBack k) := judgeStore (h.congr (by rfl))

theorem startNext : PanelKept r s.startNext := h.congr (by simp [State.panel])

theorem requestWrite (q : Requester) (body : RecordBody) : PanelKept r (s.requestWrite q body) :=
  h.congr (by simp [State.panel])

theorem failVerify : PanelKept r s.failVerify := by
  unfold State.failVerify
  split
  · exact h
  · split
    · exact h
    · extract_lets _ s₁ slot
      have h₁ : PanelKept r s₁ := raise (h.congr (by rfl)) _
      have hfailed : PanelKept r s.failStore := raise (notify (h.congr (by rfl)) _) _
      exact ite (h.congr (by rfl)) (ite (h₁.congr (by rfl)) hfailed)

/-! ## Windows and the sampler -/

theorem voidWindow (n : Nat) (f : Window → Window) : PanelKept r (s.voidWindow n f) :=
  h.congr (by simp [State.panel])

theorem openWindow (shift : Nat) : PanelKept r (s.openWindow shift) := reserve (h.congr (by rfl)) 1

theorem closeWindow (shift : Nat) : PanelKept r (s.closeWindow shift) := by
  unfold State.closeWindow
  extract_lets n time
  split
  · exact h
  · extract_lets s₁ s₂ s₃
    have h₁ : PanelKept r s₁ := (h.voidWindow _ _).ite (h.modWindow _ _)
    have h₃ : PanelKept r s₃ := (h₁.openWindow shift).tally _
    split
    · exact h₃.notify _
    · exact h₃

theorem extendWindow : PanelKept r s.extendWindow := by
  unfold State.extendWindow
  split
  · exact h
  · exact h.ite ((h.modWindow _ _).raise _)

theorem triggerClose (shift : Nat) : PanelKept r (s.triggerClose shift) := (h.closeWindow shift).ite h.extendWindow

theorem closeRetest : PanelKept r s.closeRetest := (h.closeWindow _).ite h

theorem targetTest : PanelKept r s.targetTest := by
  refine h.closeRetest.ite ?_
  split
  · exact (h.triggerClose _).ite h
  · exact h

theorem durationTest : PanelKept r s.durationTest := by
  refine h.closeRetest.ite ?_
  split
  · exact (h.triggerClose _).ite h
  · exact h

theorem samplerTest : PanelKept r s.samplerTest := ite (h.congr (by rfl)) h

theorem strokeMissed (n : Nat) : PanelKept r (s.strokeMissed n) := by
  have hr : PanelKept r (s.raise .samplerMiss) := h.raise _
  unfold State.strokeMissed
  extract_lets s₁
  split
  · exact hr
  · split
    · exact hr.modWindow _ _
    · exact (hr.voidWindow _ _).ite (hr.modWindow _ _)
    · exact hr
    · exact hr

theorem strokeEdge : PanelKept r s.strokeEdge := by
  unfold State.strokeEdge
  split
  · exact h
  · exact samplerTest (h.congr (by rfl))

theorem confirmExpired : PanelKept r s.confirmExpired := by
  unfold State.confirmExpired
  split
  · exact h
  · exact (strokeMissed (s := s.endCommand) (h.congr (by rfl)) _).samplerTest

theorem expireWindow (n : Nat) : PanelKept r (s.expireWindow n) := by
  unfold State.expireWindow
  split
  · exact h
  · exact ((h.raise _).voidWindow _ _).ite h

theorem releaseTest (n : Nat) : PanelKept r (s.releaseTest n) := by
  unfold State.releaseTest
  split
  · exact h
  · exact ite (closeRetest (h.congr (by rfl))) h

/-! ## Settlement, the feed and the deliveries -/

theorem settleTest (n : Nat) : PanelKept r (s.settleTest n) := by
  have handOver {u : State} (hu : PanelKept r u) : PanelKept r (u.handOver n) := by
    unfold State.handOver
    split
    · exact hu
    · split
      · exact hu
      · exact hu.requestWrite _ _
  unfold State.settleTest
  split
  · exact h
  · exact ite (handOver (h.modDelivery _ _)) h

theorem settleComplete (sequence : Nat) (b : SettleBody) : PanelKept r (s.settleComplete sequence b) := by
  rw [State.settleComplete_eq, State.posted_eq]
  exact notify (foldl (h.congr (by rfl)) (fun n hu => hu.releaseTest n) _) _

omit h in
theorem debits (w : Nat) (ns : List Nat) : ∀ (kg : Nat) {s : State}, PanelKept r s →
    PanelKept r (State.debits w ns kg s).2 := by
  induction ns with
  | nil => exact fun _ _ h => h
  | cons n rest ih =>
    intro kg s h
    unfold State.debits
    split
    · exact h
    · split
      · exact ih _ h
      · extract_lets remainder
        split
        · exact h.congr (by rfl)
        · exact ih _ (settleTest (h.congr (by rfl)) n)

theorem canePulse (kg : Nat) : PanelKept r (s.canePulse kg) := by
  unfold State.canePulse
  extract_lets w s₁ d s₂ s₃
  have hd : PanelKept r d.2 := debits _ _ _ (h.congr (by rfl))
  have h₂ : PanelKept r s₂ := hd.ite (raise (hd.congr (by rfl)) _)
  exact targetTest (samplerTest (h₂.congr (by rfl)))

theorem net (n : Nat) (x : Netting) : PanelKept r (s.net n x) := by
  unfold State.net
  extract_lets s₁
  have h₁ : PanelKept r s₁ := h.modDelivery _ _
  split
  · exact h₁
  · split
    · exact ite (h₁.congr (by rfl)) (h₁.congr (by rfl))
    · exact h₁.ite (h₁.modDelivery _ _)
    all_goals exact h₁

theorem grossCapture (b : BridgeNo) (vehicle cls grower inspection : Nat) (wish : Bool) (kg : Nat) :
    PanelKept r (s.grossCapture b vehicle cls grower inspection wish kg).1 :=
  ite (h.congr (by rfl)) (h.congr (by rfl))

theorem grossComplete (sequence : Nat) (x : GrossTicket) : PanelKept r (s.grossComplete sequence x) :=
  notify (h.congr (by rfl)) _

theorem tareComplete (sequence : Nat) (x : TareTicket) : PanelKept r (s.tareComplete sequence x) := by
  unfold State.tareComplete
  split
  · exact (h.modDelivery _ _).notify _
  · exact ((net (h.congr (by rfl)) _ _).settleTest _).notify _

theorem storedComplete (sequence : Nat) (x : TareTicket) : PanelKept r (s.storedComplete sequence x) := by
  unfold State.storedComplete
  split
  · exact h
  · exact (((h.modDelivery _ _).net _ _).settleTest _).notify _

theorem voidComplete (sequence : Nat) (v : VoidBody) : PanelKept r (s.voidComplete sequence v) :=
  notify (h.congr (by rfl)) _

/-! ## Bridges -/

theorem endPeriod (b : BridgeNo) : PanelKept r (s.endPeriod b) := h.congr (by rfl)

theorem ceased (b : BridgeNo) (cause : LockCause) : PanelKept r (s.ceased b cause) := by
  unfold State.ceased
  split
  · split
    · exact h.modBridge fun _ hx => ⟨hx.1, fun _ => rfl⟩
    · exact h
  · exact h

/-- A persistence timer is no concern of the three invariants. -/
theorem setTimer (b : BridgeNo) (k : RangeKind) (p : Persistence) :
    PanelKept r (s.modBridge b fun x => x.setTimer k p) :=
  h.modBridge fun _ hx => by cases k <;> exact hx

theorem setRange (b : BridgeNo) (k : RangeKind) (v : Bool) : PanelKept r (s.setRange b k v) := by
  have hc : PanelKept r (s.modChannel b fun c => c.setRangeFlag k v) := h.modChannel _ _
  exact h.ite (ite (hc.ite (hc.setTimer _ _ _)) (ite ((hc.setTimer _ _ _).ceased _ _) (hc.setTimer _ _ _)))

theorem restartTimers (b : BridgeNo) : PanelKept r (s.restartTimers b) := h.modBridge (by exact fun _ hx => hx)

theorem enterLocked (b : BridgeNo) (cause : LockCause) (x : Option Binding) : PanelKept r (s.enterLocked b cause x) :=
  ((h.modBridge (by exact fun _ _ => ⟨nofun, fun _ => rfl⟩)).notify _).raise _

theorem discardBinding (b : BridgeNo) : PanelKept r (s.discardBinding b) := by
  unfold State.discardBinding
  split
  · exact h
  · extract_lets s₁
    have h₁ : PanelKept r s₁ := h.modBridge (by exact fun _ hx => hx)
    split
    · exact (h₁.giveBack 2).congr (by rfl)
    · exact h₁.giveBack 1

theorem arise (b : BridgeNo) (cause : LockCause) : PanelKept r (s.arise b cause) := by
  unfold State.arise
  split
  · exact h.enterLocked _ _ _
  · exact h.enterLocked _ _ _
  · exact h.enterLocked _ _ _
  · exact (h.discardBinding _).enterLocked _ _ _
  · exact h.modBridge (by exact fun _ hx => hx)
  · exact h
  · exact h

theorem setZero (b : BridgeNo) (zero : Int) : PanelKept r (s.setZero b zero) :=
  (h.modBridge (by exact fun _ hx => hx)).endPeriod _

theorem emptyMean (b : BridgeNo) : PanelKept r (s.emptyMean b) :=
  (((h.modChannel _ _).endPeriod _).setRange _ _ _).setRange _ _ _

/-- Once a vehicle is judged present an IDLE bridge is ARRIVED (R94). -/
theorem judgePresence (b : BridgeNo) : PanelKept r (s.judgePresence b) := by
  refine ite ((h.modBridge (by exact fun _ hx => hx)).ite (endPeriod (h.modBridge fun x hx => ?_) _))
    ((h.modBridge (by exact fun _ hx => hx)).ite h)
  by_cases hi : x.state = .idle
  · exact Bridge.sound_of_state (by simp [hi]) (by simp [hi])
  · exact ⟨fun he => by simp [hi] at he, fun hl => hx.2 (by simpa [hi] using hl)⟩

theorem applyConfig (b : BridgeNo) (wasHeld : Bool) : PanelKept r (s.applyConfig b wasHeld) := by
  unfold State.applyConfig
  split
  · exact h
  · extract_lets old new nominal s₁ s₂ s₃ s₄ body s₅ s₆ s₇ s₈ s₉
    have h₁ : PanelKept r s₁ := h.modChannel _ _
    have h₂ : PanelKept r s₂ := (h₁.setZero _ _).ite h₁
    have h₃ : PanelKept r s₃ := (h₂.emptyMean _).ite h₂
    have h₅ : PanelKept r s₅ := (h₃.endPeriod _).modChannel _ _
    have h₇ : PanelKept r s₇ := (h₅.requestWrite _ _).notify _
    have h₈ : PanelKept r s₈ := (h₇.ceased _ _).ite h₇
    have h₉ : PanelKept r s₉ := (h₈.enterLocked _ _ _).ite h₈
    exact h₉.judgePresence _

omit h in
/-- A bridge sent to IDLE is sound whatever it was before, if the other bridges are (R94). -/
theorem goIdle_of_others {b : BridgeNo} (hbeacon : r.beaconSound → s.beaconSound)
    (hbridges : r.bridgesSound → ∀ c, c ≠ b → (s.bridge c).sound) (hlamps : r.lampsSound → s.lampsSound) :
    PanelKept r (s.goIdle b) := by
  unfold State.goIdle
  extract_lets s₁
  have h₁ : PanelKept r s₁ := by
    refine ⟨hbeacon, fun hr => State.bridgesSound.modBridge (hbridges hr) ?_, fun hr => (hlamps hr).modBridge _ _⟩
    cases (s.bridge b).present <;> exact ⟨by simp, by simp⟩
  refine h₁.ite ?_
  split
  · exact (h₁.applyConfig _ _).ite h₁
  · exact h₁

theorem goIdle (b : BridgeNo) : PanelKept r (s.goIdle b) :=
  goIdle_of_others h.beacon (fun hr c _ => h.bridges hr c) h.lamps

theorem judgeAbsent (b : BridgeNo) : PanelKept r (s.judgeAbsent b) := by
  unfold State.judgeAbsent
  extract_lets s₁
  have h₁ : PanelKept r s₁ := (h.modBridge (by exact fun _ hx => ⟨fun _ => rfl, hx.2⟩)).endPeriod _
  split
  · exact h₁.goIdle _
  · exact h₁.goIdle _
  all_goals exact h₁

theorem rearmZero (b : BridgeNo) : PanelKept r (s.rearmZero b) := h.modBridge (by exact fun _ hx => hx)

theorem takeZero (b : BridgeNo) (zero : Int) : PanelKept r (s.takeZero b zero) :=
  ((h.setZero _ _).modBridge (by exact fun _ hx => hx)).rearmZero _

theorem zeroMinute (b : BridgeNo) : PanelKept r (s.zeroMinute b) :=
  (((h.modBridge (by exact fun _ hx => hx)).ite h).rearmZero _).ite h

theorem zeroCheck (b : BridgeNo) (reading count : Int) : PanelKept r (s.zeroCheck b reading count) :=
  ((h.takeZero _ _).ite (h.enterLocked _ _ _)).ite h

theorem captureTest (b : BridgeNo) (reading : Int) : PanelKept r (s.captureTest b reading) := by
  refine ite ?_ h
  split
  · exact h
  · extract_lets held
    have hh : PanelKept r held := h.modBridge fun _ _ => ⟨nofun, nofun⟩
    split
    · exact (hh.grossCapture _ _ _ _ _ _ _).requestWrite _ _
    · split
      · exact hh.requestWrite _ _
      · exact h

theorem leaveCapture (b : BridgeNo) : PanelKept r (s.leaveCapture b) := by
  have hclearing : PanelKept r (s.modBridge b fun x => { x with state := .clearing }) :=
    h.modBridge fun _ _ => ⟨nofun, nofun⟩
  unfold State.leaveCapture
  split
  · exact h.enterLocked _ _ _
  · exact hclearing.ite (hclearing.goIdle _)

theorem bindExpired (b : BridgeNo) : PanelKept r (s.bindExpired b) := by
  unfold State.bindExpired
  split
  · exact ((h.discardBinding _).notify _).goIdle _
  · exact h

theorem persistenceExpired (b : BridgeNo) (k : RangeKind) : PanelKept r (s.persistenceExpired b k) := by
  unfold State.persistenceExpired
  split
  · exact (h.setTimer _ _ _).arise _ _
  · exact h
  · exact h

theorem bindBridge (b : BridgeNo) (x : Binding) : PanelKept r (s.bindBridge b x) :=
  h.modBridge fun _ _ => ⟨nofun, nofun⟩

theorem enterCalibrating (b : BridgeNo) (entry : EntryState) : PanelKept r (s.enterCalibrating b entry) :=
  h.modBridge fun _ _ => ⟨nofun, nofun⟩

/-! ## Channels -/

theorem endSession (b : BridgeNo) : PanelKept r (s.endSession b) := by
  unfold State.endSession
  extract_lets s₁ s₂
  have h₂ : PanelKept r s₂ := ((h.modChannel _ _).giveBack _).restartTimers _
  split
  · exact h₂.enterLocked _ _ _
  · exact h₂.goIdle _
  · exact h₂.goIdle _

theorem stepReading (b : BridgeNo) (count : Int) : PanelKept r (s.stepReading b count) := by
  unfold State.stepReading
  repeat' split
  · exact h
  · exact h
  · exact (h.modChannel _ _).notify _
  · exact (h.modChannel _ _).notify _

theorem stepTimeout (b : BridgeNo) : PanelKept r (s.stepTimeout b) := by
  unfold State.stepTimeout
  split
  · exact h
  · split
    · exact h
    · exact (h.modChannel _ _).notify _

theorem sessionTimeout (b : BridgeNo) : PanelKept r (s.sessionTimeout b) := by
  unfold State.sessionTimeout
  split
  · exact h
  · exact ((h.endSession _).notify _).ite h

theorem sessionComplete (b : BridgeNo) (body : CalBody) : PanelKept r (s.sessionComplete b body) := by
  unfold State.sessionComplete
  extract_lets wireOff s₁ s₂ s₃
  have h₁ : PanelKept r s₁ := (h.modChannel _ _).endPeriod _
  have h₃ : PanelKept r s₃ := (((h₁.takeZero _ _).restartTimers _).goIdle _).notify _
  exact (h₃.arise _ _).ite h₃

theorem wireOffBridge (b : BridgeNo) : PanelKept r (s.wireOffBridge b) := by
  refine ite (ite (h.modChannel _ _) ?_) (h.arise _ _)
  have hw : PanelKept r { s with store := s.store.withdraw b } := h.congr (by rfl)
  exact ((((hw.modChannel _ _).giveBack _).notify _).restartTimers _).enterLocked _ _ _

theorem raiseWireOff (b : BridgeNo) : PanelKept r (s.raiseWireOff b) :=
  (((h.modChannel _ _).emptyMean _).wireOffBridge _).judgePresence _

theorem clearWireOff (b : BridgeNo) : PanelKept r (s.clearWireOff b) :=
  ((h.modChannel _ _).ceased _ _).judgePresence _

theorem stableEnding (b : BridgeNo) (reading count : Int) : PanelKept r (s.stableEnding b reading count) := by
  unfold State.stableEnding
  split
  · exact h.stepReading _ _
  · exact h.captureTest _ _
  · exact h.zeroCheck _ _ _
  all_goals exact h

theorem stability (b : BridgeNo) (reading count : Int) : PanelKept r (s.stability b reading count) := by
  unfold State.stability
  extract_lets c
  split
  · exact h.modChannel _ _
  · exact (h.modChannel _ _).ite (((h.modChannel _ _).stableEnding _ _ _).ite (h.modChannel _ _))

theorem takeReading (b : BridgeNo) (filtered : Int) : PanelKept r (s.takeReading b filtered) := by
  unfold State.takeReading
  extract_lets c reading s₁ s₂ s₃ before s₄
  have h₃ : PanelKept r s₃ := ((h.modChannel _ _).setRange _ _ _).setRange _ _ _
  have h₄ : PanelKept r s₄ := h₃.judgePresence _
  exact (h₄.stability _ _ _).ite h₄

theorem joinMean (b : BridgeNo) (count : Int) : PanelKept r (s.joinMean b count) := by
  unfold State.joinMean
  extract_lets c mean s₁ filtered s₂
  have h₁ : PanelKept r s₁ := h.modChannel _ _
  have h₂ : PanelKept r s₂ := h₁.modChannel _ _
  exact (h₂.ite (h₂.takeReading _ _)).ite h₁

theorem convert (b : BridgeNo) (count : Int) (agree : Bool) : PanelKept r (s.convert b count agree) := by
  unfold State.convert
  split
  · exact ((h.modChannel _ _).raiseWireOff _).ite (h.modChannel _ _)
  · exact (((h.modChannel _ _).clearWireOff _).ite (h.modChannel _ _)).ite ((h.modChannel _ _).joinMean _ _)

theorem periodStable (b : BridgeNo) : PanelKept r (s.periodStable b) := by
  unfold State.periodStable
  extract_lets c
  split
  · exact (h.modChannel _ _).stableEnding _ _ _
  · exact h

/-! ## Lines -/

theorem deliverLevel (line : InputLine) : PanelKept r (s.deliverLevel line) := by
  cases line with
  | e n => exact h.judgePresence n
  | x n => exact h.judgePresence n
  | tr => exact h.samplerTest.ite h
  | _ => exact h

theorem deliverEdge (line : InputLine) : PanelKept r (s.deliverEdge line) := by
  cases line with
  | cp => exact h.canePulse _
  | jp | wp => exact h.congr (by rfl)
  | ss => exact h.strokeEdge
  | _ => exact h

theorem setInput (line : InputLine) (i : Input) : PanelKept r (s.setInput line i) := by
  cases line <;> exact h.congr (by rfl)

theorem takeLevel (line : InputLine) : PanelKept r (s.takeLevel line) := by
  have hl {i : Input} : PanelKept r ((s.setInput line i).deliverLevel line) := (h.setInput _ _).deliverLevel _
  exact ite (hl.deliverEdge _) hl

theorem setInputSettings (line : InputLine) (es : List (Nat × Nat)) : PanelKept r (s.setInputSettings line es) := by
  unfold State.setInputSettings
  extract_lets i₁ i₂ s₁
  have h₁ : PanelKept r s₁ := h.setInput _ _
  split
  · exact h₁.congr (by cases line <;> rfl)
  · exact h₁

theorem lineSetInput (line : InputLine) (es : List (Nat × Nat)) : PanelKept r (s.lineSetInput line es) := by
  unfold State.lineSetInput
  extract_lets before s₁ s₂
  have h₁ : PanelKept r s₁ := h.setInputSettings _ _
  have h₂ : PanelKept r s₂ := (h₁.deliverLevel _).ite h₁
  split
  · exact (h₂.takeLevel _).ite h₂
  · exact h₂

/-- A lamp's safe value leaves what every other lamp shows (R152). -/
theorem lineSetLamp (entry : Bool) (b : BridgeNo) (es : List (Nat × Nat)) : PanelKept r (s.lineSetLamp entry b es) := by
  have set_shows {q : Quad Lamp} {d : BridgeNo → LampDemand} (v : SafeValue) (hq : ∀ c, (q.get c).shows (d c))
      (c : BridgeNo) : ((q.set b ((q.get b).setSafe v (d b))).get c).shows (d c) := by
    by_cases hc : c = b
    · subst hc
      rw [Quad.get_set]
      exact Lamp.setSafe_shows (hq c) v
    · rw [Quad.get_set_ne _ _ hc]
      exact hq c
  unfold State.lineSetLamp
  split
  · exact h
  · split
    · exact ⟨h.beacon, h.bridges, fun hr c => ⟨set_shows _ (fun c => (h.lamps hr c).1) c, (h.lamps hr c).2⟩⟩
    · exact ⟨h.beacon, h.bridges, fun hr c => ⟨(h.lamps hr c).1, set_shows _ (fun c => (h.lamps hr c).2) c⟩⟩

theorem lineSet (x : LineTarget) (es : List (Nat × Nat)) : PanelKept r (s.lineSet x es) := by
  cases x with
  | input line => exact h.lineSetInput line es
  | entryLamp b => exact h.lineSetLamp true b es
  | exitLamp b => exact h.lineSetLamp false b es
  | sc | al => exact h

/-! ## Shifts, records and the minute -/

theorem seasonWindows : PanelKept r s.seasonWindows :=
  openWindow ((h.giveBack s.unwrittenWindows).congr (by rfl)) 1

theorem windowComplete (sequence n : Nat) : PanelKept r (s.windowComplete sequence n) := by
  unfold State.windowComplete
  extract_lets s₁ s₂
  have h₁ : PanelKept r s₁ := h.modWindow _ _
  have h₂ : PanelKept r s₂ := by
    unfold s₂
    split
    · exact h₁.notify _
    · exact h₁
  exact (h₂.foldl (fun n hu => hu.settleTest n) _).releaseTest n

theorem ticketDone (b : BridgeNo) {complete : State → State} (hc : ∀ {u}, PanelKept r u → PanelKept r (complete u)) :
    PanelKept r (s.ticketDone b complete) :=
  (hc (h.modBridge (by exact fun _ hx => hx))).leaveCapture b

theorem requesterComplete (sequence : Nat) (x : WriteRequest) : PanelKept r (s.requesterComplete sequence x) := by
  unfold State.requesterComplete
  split
  · exact h.ticketDone _ fun hu => hu.grossComplete _ _
  · exact h.ticketDone _ fun hu => hu.tareComplete _ _
  · exact h.storedComplete _ _
  · exact h.voidComplete _ _
  · exact h.settleComplete _ _
  · exact h.windowComplete _ _
  · exact notify (h.congr (by rfl)) _
  · exact h.congr (by rfl)
  · exact h.modChannel _ _
  · exact h.sessionComplete _ _
  · exact h

theorem completeWrite : PanelKept r s.completeWrite := by
  unfold State.completeWrite
  split
  · exact h
  · split
    · exact h
    · next f _ =>
      extract_lets _ s₁ s₂
      have h₁ : PanelKept r s₁ := h.congr (by rfl)
      have h₂ : PanelKept r s₂ := h₁.requesterComplete _ _
      exact startNext (h₂.congr (by rfl))

theorem minute : PanelKept r s.minute := by
  have counted {u : State} (hu : PanelKept r u) : PanelKept r u.countMinute := (hu.modWindow _ _).ite (hu.tally _)
  have clocked {u : State} (hu : PanelKept r u) : PanelKept r u.clockMinute := hu.ite (hu.raise _)
  refine clocked (foldl (foldl (durationTest (counted (h.congr (by rfl)))) ?_ _) ?_ _)
  · exact fun n hu => hu.expireWindow n
  · exact fun b hu => hu.zeroMinute b

/-! ## Decisions of requests -/

theorem take {u : State} (content : ReplyContent) : PanelKept r ((Decision.take s content).after u) := h

theorem decideBind (bridge pass vehicle cls insp wish grower delivery : Nat) :
    PanelKept r ((decideBind bridge pass vehicle cls insp wish grower delivery s).after s) := by
  unfold Machine.decideBind
  dsimp only
  repeat' split
  all_goals try exact h
  · exact bindBridge ((h.reserve 2).congr (by rfl)) _ _
  · exact (h.reserve 1).bindBridge _ _

theorem decideUnbind (bridge : Nat) : PanelKept r ((decideUnbind bridge s).after s) := by
  unfold Machine.decideUnbind
  repeat' split
  all_goals try exact h
  exact (h.discardBinding _).goIdle _

/-- CLEAR FAULT takes a LOCKED bridge's cause away just before the bridge leaves LOCKED (R111). -/
theorem decideClearFault (bridge : Nat) : PanelKept r ((decideClearFault bridge s).after s) := by
  unfold Machine.decideClearFault
  repeat' split
  all_goals try exact h
  refine goIdle_of_others h.beacon (fun hr c hc => ?_) fun hr => ((h.lamps hr).modBridge _ _).modBridge _ _
  rw [State.restartTimers, State.modBridge_bridge_ne _ hc, State.modBridge_bridge_ne _ hc]
  exact h.bridges hr c

theorem decideZeroNow (bridge : Nat) : PanelKept r ((decideZeroNow bridge s).after s) := by
  unfold Machine.decideZeroNow
  repeat' split
  all_goals try exact h
  exact (h.modBridge (by exact fun _ hx => hx)).take _

theorem decideTip (n : Nat) : PanelKept r ((decideTip n s).after s) := by
  unfold Machine.decideTip
  dsimp only
  repeat' split
  all_goals try exact h
  · exact h.congr (by rfl)
  · exact settleTest (h.congr (by rfl)) n

theorem decideNetFromStored (n : Nat) : PanelKept r ((decideNetFromStored n s).after s) := by
  unfold Machine.decideNetFromStored
  repeat' split
  all_goals try exact h
  exact ((h.reserve 1).modDelivery _ _).requestWrite _ _

theorem decideSampleClose (n : Nat) : PanelKept r ((decideSampleClose n s).after s) := by
  unfold Machine.decideSampleClose
  repeat' split
  all_goals try exact h
  exact h.closeWindow _

theorem decideShiftMark (letter : Nat) : PanelKept r ((decideShiftMark letter s).after s) := by
  unfold Machine.decideShiftMark
  dsimp only
  repeat' split
  all_goals try exact h
  exact requestWrite (((h.reserve 1).triggerClose _).congr (by rfl)) _ _

theorem decideSeasonOpen : PanelKept r ((decideSeasonOpen s).after s) := by
  unfold Machine.decideSeasonOpen
  split
  · exact h
  · exact requestWrite ((h.reserve 1).seasonWindows.congr (by rfl)) _ _

theorem decideConfigApply (channel : Nat) : PanelKept r ((decideConfigApply channel s).after s) := by
  unfold Machine.decideConfigApply
  dsimp only
  repeat' split
  all_goals try exact h
  · exact (h.reserve 1).applyConfig _ _
  · exact ((h.reserve 1).modChannel _ _).take _

theorem decideConfigDiscard (channel : Nat) : PanelKept r ((decideConfigDiscard channel s).after s) := by
  unfold Machine.decideConfigDiscard
  dsimp only
  repeat' split
  · exact h
  · exact h
  · exact (h.modChannel _ _).giveBack 1
  · exact (h.modChannel _ _).take _

theorem decideCalBegin (channel : Nat) : PanelKept r ((decideCalBegin channel s).after s) := by
  unfold Machine.decideCalBegin
  split
  · exact h
  · next b _ =>
    extract_lets _ go
    have hgo (entry : EntryState) : PanelKept r ((go entry).after s) := by
      unfold go
      repeat' split
      · exact h
      · exact h
      · exact ((h.reserve 1).modChannel _ _).enterCalibrating _ _
    split
    · exact hgo _
    · exact hgo _
    · exact hgo _
    · exact h
    · exact h

theorem decideCalEnd (channel ending : Nat) : PanelKept r ((decideCalEnd channel ending s).after s) := by
  unfold Machine.decideCalEnd State.calCommit
  dsimp only
  repeat' split
  all_goals try exact h
  · exact h.endSession _
  · exact (((h.modChannel _ _).endPeriod _).endSession _).notify _
  · exact (h.modChannel _ _).requestWrite _ _

theorem decideCalDefault (channel : Nat) : PanelKept r ((decideCalDefault channel s).after s) := by
  unfold Machine.decideCalDefault
  dsimp only
  repeat' split
  all_goals try exact h
  exact (((((h.reserve 1).modChannel _ _).endPeriod _).setZero _ _).requestWrite _ _).arise _ _

theorem decideLineSet (line : Nat) (es : List (Nat × Nat)) : PanelKept r ((decideLineSet line es s).after s) := by
  unfold Machine.decideLineSet
  dsimp only
  repeat' split
  all_goals try exact h
  exact h.lineSet _ _

theorem decideExportMark (n : Nat) : PanelKept r ((decideExportMark n s).after s) := by
  unfold Machine.decideExportMark
  dsimp only
  split
  · exact h
  · exact judgeStore (h.congr (by rfl))

/-- No owner's decision breaks the three invariants: the decisions above, and those that leave the panel alone. -/
theorem decideRequest (q : Request) (tag : Byte) : PanelKept r ((decideRequest q tag s).after s) := by
  cases q
  case attention => exact h.setFlags _
  case bind => exact h.decideBind _ _ _ _ _ _ _ _
  case unbind => exact h.decideUnbind _
  case clearFault => exact h.decideClearFault _
  case zeroNow => exact h.decideZeroNow _
  case tip => exact h.decideTip _
  case netFromStored => exact h.decideNetFromStored _
  case sampleClose => exact h.decideSampleClose _
  case shiftMark => exact h.decideShiftMark _
  case seasonOpen => exact h.decideSeasonOpen
  case configApply => exact h.decideConfigApply _
  case configDiscard => exact h.decideConfigDiscard _
  case calBegin => exact h.decideCalBegin _
  case calEnd => exact h.decideCalEnd _ _
  case calDefault => exact h.decideCalDefault _
  case lineSet => exact h.decideLineSet _ _
  case exportMark => exact h.decideExportMark _
  all_goals
    simp only [Machine.decideRequest, decideStatus, decideLinkSet, decideTimeSet, decideReportStart, decideReportStop,
      decideBridgeQuery, decideVoid, decideDeliveryQuery, decideVehicleSet, decideVehicleDrop, decideGrowerSet,
      decideGrowerDrop, decideGrowerQuery, decideSampleResult, decideSampleVoid, decideWindowQuery, decideProfileLoad,
      decideProfileRead, decideConfigOpen, decideConfigSet, decideCalZero, decideCalSpan, decideStoreRead]
    repeat' split
  all_goals exact h.congr (by simp [State.panel, State.beginStep, State.endPeriod])

/-! ## The link -/

omit h in
/-- An answered request leaves what its decision leaves of the panel: a reply raises no flag. -/
theorem answer {d : Decision} (hd : PanelKept r (d.after s)) (kind tag : Byte) : PanelKept r (s.answer kind tag d) := by
  cases d <;> exact hd.congr (by rfl)

theorem pump : PanelKept r s.pump := h.congr (by simp [State.panel])

theorem dispatch (f : Frame) : PanelKept r (s.dispatch f) := by
  unfold State.dispatch
  split
  · exact answer (h.decideRequest _ _) _ _
  · exact h.congr (by rfl)
  · exact answer h _ _

omit h in
theorem settle (fuel : Nat) : ∀ {s : State}, PanelKept r s → PanelKept r (s.settle fuel) := by
  induction fuel with
  | zero => exact fun h => h.pump
  | succ fuel ih =>
    intro s h
    unfold State.settle
    extract_lets s₁
    have h₁ : PanelKept r s₁ := h.pump
    split
    · exact h₁
    · exact ite (ih (dispatch (h₁.congr (by rfl)) _)) h₁

theorem settleLink : PanelKept r s.settleLink := settle _ h

theorem receiveFrame (f : Frame) : PanelKept r (s.receiveFrame f) := ite (h.congr (by rfl)) (h.raise _)

theorem feedByte (b : Byte) : PanelKept r (s.feedByte b) := by
  unfold State.feedByte
  split
  · exact ite (h.congr (by rfl)) h
  · exact ite (raise (h.congr (by rfl)) _) (h.congr (by rfl))
  · refine ite (h.congr (by rfl)) ?_
    extract_lets s₁
    have h₁ : PanelKept r s₁ := h.congr (by rfl)
    split
    · exact (h₁.receiveFrame _).settleLink
    · exact h₁.raise _

theorem badLength (l : Byte) : PanelKept r (s.badLength l) := by
  unfold State.badLength
  split
  · exact (h.feedByte _).feedByte _
  · exact h.feedByte _
  · exact h

/-- The turn's settling raises no flag. -/
theorem endFrame : PanelKept r s.endFrame := by
  unfold State.endFrame Link.settleTurn
  dsimp only
  repeat' split
  all_goals exact h.congr (by rfl)

theorem submit (q : Request) (tag : Byte) : PanelKept r (s.submit q tag) :=
  ite (answer (h.decideRequest q tag) _ _).settleLink (h.receiveFrame _).settleLink

/-! ## The resets -/

omit h in
/-- The fresh start of a RESTART makes the invariants anew: RESTARTED sets AL, every bridge is IDLE and empty with
ZERO_DUE set, and every lamp is off (R118, R154). -/
theorem comeUp (s : State) (minutes seconds : Nat) (stopped : Bool) :
    PanelKept r (s.comeUp minutes seconds stopped) := by
  refine ⟨fun _ => rfl, fun _ b => ?_, fun _ b => ?_⟩
  · obtain ⟨deadline, hb⟩ := s.comeUp_bridge minutes seconds stopped b
    rw [hb]
    exact ⟨fun _ => rfl, nofun⟩
  · obtain ⟨deadline, hb⟩ := s.comeUp_bridge minutes seconds stopped b
    rw [hb]
    cases b <;> exact ⟨rfl, rfl⟩

omit h in
/-- What RESTART does after the fresh start is made of operations that keep the invariants. -/
theorem started (s : State) (minutes seconds : Nat) (stopped : Bool) (failing : Nat) :
    PanelKept r (s.started minutes seconds stopped failing) := by
  refine State.alarmed_keeps (fun _ _ hu => hu.notify _) (fun _ _ _ hu => hu.raise _) ?_
  refine State.bridgesComeUp_keeps (fun _ _ _ hu => hu.enterLocked _ _ _)
    (fun _ b hu => ⟨hu.beacon, hu.bridges, fun hr => (hu.lamps hr).driveLamps b rfl fun _ _ => rfl⟩) ?_
  refine State.askAgain_keeps (fun _ _ _ hu => hu.requestWrite _ _) ?_
  refine State.settleWindows_keeps (fun _ _ _ hu => hu.congr (by rfl)) (fun _ hu => hu.raise _) ?_
  exact State.scanned_keeps (fun _ _ hu => raise (hu.congr (by rfl)) _) (fun _ hu => hu.congr (by rfl))
    (fun _ _ hu => hu.congr (by rfl)) failing (comeUp s minutes seconds stopped)

omit h in
theorem blank (s : State) : PanelKept r s.blank := by
  rw [State.blank_eq]
  exact ⟨fun _ => rfl, fun _ => State.reset_bridgesSound, fun _ => State.reset_lampsSound⟩

omit h in
theorem restart (s : State) (minutes seconds : Nat) (stopped : Bool) (failing : Nat) :
    PanelKept r (s.restart minutes seconds stopped failing) := by
  cases hmark : s.store.formatMark with
  | false =>
    unfold State.restart
    rw [if_pos hmark]
    exact blank s
  | true =>
    rw [State.restart_formatted minutes seconds stopped failing hmark]
    exact (started s minutes seconds stopped failing).settleLink

/-- The millisecond of an idle step moves timers alone. -/
theorem tick : PanelKept r s.tick := by
  refine ⟨h.beacon, fun hr b => ?_, fun hr b => ?_⟩
  · rw [State.tick_bridge]
    exact h.bridges hr b
  · rw [State.tick_bridge]
    exact h.lamps hr b

/-! ## Every command and every step -/

theorem exec {c : Instr} (he : exec c s = .next t) : PanelKept r t := by
  cases c
  all_goals obtain rfl := Host.Outcome.next.inj he
  case unknownRequestKind => exact (h.receiveFrame _).settleLink
  case frameReceived => exact (h.foldl (fun _ hu => hu.feedByte _) _).settleLink
  case frameBadLength => exact (h.badLength _).settleLink
  case frameGap => exact settleLink (raise (h.congr (by rfl)) _)
  case transmitComplete => exact h.endFrame.settleLink
  case rawLevelChange => exact (h.setInput _ _).settleLink
  case inputHoldExpiry => exact ((h.takeLevel _).ite h).settleLink
  case clearHoldExpiry => exact ((h.judgeAbsent _).ite h).settleLink
  case bindingExpiry => exact (h.bindExpired _).settleLink
  case rangePersistenceExpiry => exact (h.persistenceExpired _ _).settleLink
  case strokeConfirmExpiry => exact h.confirmExpired.settleLink
  case scPulseEnd => exact settleLink (h.congr (by rfl))
  case scGapEnd => exact settleLink (h.congr (by rfl))
  case calStepTimeout => exact (h.stepTimeout _).settleLink
  case calIdleTimeout => exact (h.sessionTimeout _).settleLink
  case minuteEvent => exact h.minute.settleLink
  case runningMinutesLimit => exact h.durationTest.settleLink
  case resultDeadlineExpiry => exact (h.expireWindow _).settleLink
  case zeroDeadlineExpiry => exact (h.zeroMinute _).settleLink
  case loadCellConversion => exact (h.convert _ _ _).settleLink
  case stableEnding => exact (h.periodStable _).settleLink
  case wireOffRaise => exact (h.ite ((h.modChannel _ _).raiseWireOff _)).settleLink
  case wireOffClear => exact (((h.modChannel _ _).clearWireOff _).ite h).settleLink
  case writeComplete => exact h.completeWrite.settleLink
  case verifyFailure => exact h.failVerify.settleLink
  case restart => exact restart s _ _ _ _
  case blankStart => exact blank s
  all_goals exact h.submit _ _

theorem step (hs : step s = .next t) : PanelKept r t := by
  cases hq : s.pending with
  | nil =>
    rw [step_of_empty hq] at hs
    obtain rfl := Host.Outcome.next.inj hs
    exact h.tick
  | cons c rest =>
    rw [step_of_cons hq] at hs
    exact exec (h.congr (by rfl)) hs

end

end PanelKept

/-- Settles O7: every step keeps the three invariants, `PanelKept.step`. -/
theorem bridgesLampsAndBeaconStaySound : Obligations.BridgesLampsAndBeaconStaySound :=
  ⟨fun s _ hs ht => ((PanelKept.refl s).step ht).beacon hs, fun s _ hs ht => ((PanelKept.refl s).step ht).bridges hs,
    fun s _ hs ht => ((PanelKept.refl s).step ht).lamps hs⟩

end Sys2Proof.Machine

/-! SUPPORT. Presence, the ways to IDLE, faults and zeros, and range flags that last. -/
namespace Sys2Proof.Machine

open Sys2Proof

section

variable {s : State} {b : BridgeNo}

/-! ## Changes of one bridge and one channel -/

theorem State.modBridge_congr {f g : Bridge → Bridge} (h : f (s.bridge b) = g (s.bridge b)) :
    s.modBridge b f = s.modBridge b g :=
  congrArg (fun x => State.driveLamps { s with bridges := s.bridges.set b x } b) h

@[simp] theorem State.modBridge_channel (f : Bridge → Bridge) (c : BridgeNo) :
    (s.modBridge b f).channel c = s.channel c := rfl

@[simp] theorem State.modChannel_bridge (f : Channel → Channel) (c : BridgeNo) :
    (s.modChannel b f).bridge c = s.bridge c := rfl

/-- The end of a period by an event (R123), as a test for a period in progress. -/
theorem Channel.endPeriod_eq (c : Channel) :
    c.endPeriod = if c.period.isSome then { c with period := none, lastStable := false } else c := by
  unfold Channel.endPeriod
  split
  · next h => rw [if_pos (by simp [h])]
  · next h => rw [if_neg (by simp [h])]

theorem State.endPeriod_eq (s : State) (b : BridgeNo) : s.endPeriod b =
    s.modChannel b fun c => if c.period.isSome then { c with period := none, lastStable := false } else c :=
  State.modChannel_congr (Channel.endPeriod_eq _)

/-! ## Presence (R93) -/

/-- A vehicle is judged present by a broken beam or by a reading at the empty threshold (R93). -/
theorem State.occupied_iff : s.occupied b = true ↔
    ((s.lines.e.get b).level = some true ∨ (s.lines.x.get b).level = some true) ∨
      ∃ r, (s.channel b).rounded = some r ∧
        (((s.channel b).active.threshold * (s.channel b).active.division : Nat) : Int) ≤ r := by
  cases hr : (s.channel b).rounded with
  | none => simp [State.occupied, hr, State.entryBeam, State.exitBeam]
  | some r =>
    simp only [State.occupied, hr, State.entryBeam, State.exitBeam, Bool.or_eq_true, decide_eq_true_eq, beq_iff_eq,
      Option.some.injEq, exists_eq_left']
    exact or_assoc.trans or_comm

/-- A vehicle newly judged present takes an IDLE bridge to ARRIVED (R94). -/
theorem State.judgePresence_arrives (h : s.occupied b = true) (hp : (s.bridge b).present = false) :
    s.judgePresence b = (s.modBridge b fun x => { x with
      present := true, clearHold := none, state := if x.state = .idle then .arrived else x.state }).endPeriod b := by
  rw [State.judgePresence, if_pos h, if_neg (by simp [hp])]

theorem State.judgePresence_stays (h : s.occupied b = true) (hp : (s.bridge b).present = true) :
    s.judgePresence b = s.modBridge b fun x => { x with clearHold := none } := by
  rw [State.judgePresence, if_pos h, if_pos hp]

/-- A deck that becomes clear starts the clear hold (R93). -/
theorem State.judgePresence_clears (h : s.occupied b = false) (he : (s.lines.e.get b).level = some false)
    (hx : (s.lines.x.get b).level = some false) (hp : (s.bridge b).present = true)
    (hc : (s.bridge b).clearHold = none) :
    s.judgePresence b = s.modBridge b fun x => { x with clearHold := some Config.clearHoldMs } := by
  have hclear : s.deckClear b = true := by simp [State.deckClear, h, State.entryBeam, State.exitBeam, he, hx]
  rw [State.judgePresence, if_neg (by simp [h]), if_pos (by simp [hclear, hp, hc])]

end

/-- Settles O37: the three outcomes of `State.judgePresence`. -/
theorem presenceIsJudgedByReadingAndBeams : Obligations.PresenceIsJudgedByReadingAndBeams := by
  intro s b broken heavy
  refine ⟨fun h hp => ?_, fun h hp => State.judgePresence_stays (State.occupied_iff.mpr h) hp, ?_⟩
  · rw [State.judgePresence_arrives (State.occupied_iff.mpr h) hp, State.endPeriod_eq]
  · intro hnot he hx hp hc
    have hfree : s.occupied b = false := by
      rw [← Bool.not_eq_true, State.occupied_iff]
      rintro ((h | h) | h)
      · simp [he] at h
      · simp [hx] at h
      · exact hnot h
    exact State.judgePresence_clears hfree he hx hp hc

section

variable {s : State} {b : BridgeNo}

/-! ## The ways to IDLE (R94, R99, R113) -/

/-- A bridge sent to IDLE, before a held configuration is applied (R94). -/
def State.sentTo (s : State) (b : BridgeNo) (next : BridgeState) : State :=
  s.modBridge b fun x => { x with state := next, lockCause := none, pendingCause := none, entry := none }

/-- The first step of every way to IDLE, with its state given. -/
theorem State.sentTo_eq (next : BridgeState) (h : (if (s.bridge b).present then .arrived else .idle) = next) :
    (s.modBridge b fun x => { x with
      state := if x.present then .arrived else .idle, lockCause := none, pendingCause := none, entry := none }) =
      s.sentTo b next :=
  State.modBridge_congr (by rw [h])

theorem State.goIdle_present (h : (s.bridge b).present = true) : s.goIdle b = s.sentTo b .arrived := by
  have hsent := State.sentTo_eq (s := s) (b := b) .arrived (by rw [h]; rfl)
  simp only [State.goIdle, hsent]
  exact if_pos (by simp [State.sentTo, h])

theorem State.goIdle_absent (h : (s.bridge b).present = false) :
    s.goIdle b = match (s.channel b).pending with
      | some p => if p.held then (s.sentTo b .idle).applyConfig b true else s.sentTo b .idle
      | none => s.sentTo b .idle := by
  have hsent := State.sentTo_eq (s := s) (b := b) .idle (by rw [h]; rfl)
  simp only [State.goIdle, hsent]
  exact if_neg (by simp [State.sentTo, h])

/-- A clear hold that runs out (R93). -/
theorem exec_clearHoldExpiry (h : (s.bridge b).clearHold.isSome = true) :
    exec (.clearHoldExpiry b) s = .next (s.judgeAbsent b).settleLink := by
  have hrun : s.clearHoldExpired b = s.judgeAbsent b := if_pos h
  rw [← hrun]
  rfl

/-- The vehicle is judged absent, before the bridge goes to IDLE (R93, R94). -/
def State.absent (s : State) (b : BridgeNo) : State :=
  (s.modBridge b fun x => { x with present := false, clearHold := none }).endPeriod b

theorem State.absent_state : ((s.absent b).bridge b).state = (s.bridge b).state := by
  simp [State.absent, State.endPeriod]

theorem State.judgeAbsent_leaves (h : (s.bridge b).state = .arrived ∨ (s.bridge b).state = .clearing) :
    s.judgeAbsent b = (s.absent b).goIdle b := by
  have hst := State.absent_state (s := s) (b := b)
  unfold State.judgeAbsent
  rw [State.absent] at hst ⊢
  rcases h with h | h <;> simp only [hst, h]

theorem State.judgeAbsent_stays (ha : (s.bridge b).state ≠ .arrived) (hc : (s.bridge b).state ≠ .clearing) :
    s.judgeAbsent b = s.absent b := by
  have hst := State.absent_state (s := s) (b := b)
  unfold State.judgeAbsent
  rw [State.absent] at hst ⊢
  dsimp only
  split
  · next h => exact absurd (hst.symm.trans h) ha
  · next h => exact absurd (hst.symm.trans h) hc
  all_goals rfl

/-- A bind life that runs out on a BOUND bridge (R98). -/
theorem exec_bindingExpiry {x : Binding} (h : (s.bridge b).state = .bound) (ht : (s.bridge b).bindTimer.isSome = true)
    (hx : (s.bridge b).binding = some x) : exec (.bindingExpiry b) s =
      .next (((s.discardBinding b).notify (.bindExpired b x)).goIdle b).settleLink := by
  obtain ⟨left, hleft⟩ := Option.isSome_iff_exists.mp ht
  have hexp : s.bindExpired b = ((s.discardBinding b).notify (.bindExpired b x)).goIdle b := by
    simp only [State.bindExpired, h, hleft, hx]
  rw [← hexp]
  rfl

theorem decideUnbind_bound {x : Binding} (h : (s.bridge b).state = .bound) (hx : (s.bridge b).binding = some x) :
    decideUnbind (bridgeCode b) s = .take ((s.discardBinding b).goIdle b) (.discarded x) := by
  simp only [decideUnbind, bridgeOf_code, h, hx]

theorem decideUnbind_unbound (h : (s.bridge b).state ≠ .bound) :
    decideUnbind (bridgeCode b) s = .refuse .wrongState := by
  simp only [decideUnbind, bridgeOf_code]
  split
  · next hb _ => exact absurd hb h
  · rfl

end

/-- Settles O20: `State.discardBinding_gross` or `State.discardBinding_tare` between UNBIND's tests and its reply. -/
theorem unbindGivesBackWhatTheBindingTook : Obligations.UnbindGivesBackWhatTheBindingTook := by
  intro s tag hready
  refine ⟨fun n hn => ?_, fun b => ⟨fun hb => ?_, ?_⟩⟩
  · exact exec_refused hready (.unbind n) (by simp only [decideRequest, decideUnbind, bridgeOf_bad n hn]) rfl
  · exact exec_refused hready (.unbind (bridgeCode b)) (decideUnbind_unbound hb) rfl
  · intro hb x hx free
    have htaken := exec_taken (kind := 0xA1) (tag := tag) hready (.unbind (bridgeCode b)) (decideUnbind_bound hb hx) rfl
    refine ⟨fun cls g insp wish hpass => ?_, fun n hpass => ?_⟩
    · rw [State.discardBinding_gross hx hpass] at htaken
      exact htaken
    · rw [State.discardBinding_tare hx hpass] at htaken
      exact htaken

/-- Settles O21: the clear hold by `State.judgeAbsent_leaves` and `State.judgeAbsent_stays`, the ways to IDLE by
`State.goIdle_present` and `State.goIdle_absent`, the expiry by `exec_bindingExpiry`. -/
theorem bridgesClearAndReturnToIdle : Obligations.BridgesClearAndReturnToIdle := by
  refine ⟨?_, ?_, ?_⟩
  · intro s b hhold absent
    have habsent : absent = s.absent b := (State.endPeriod_eq _ b).symm
    rw [exec_clearHoldExpiry hhold, habsent]
    exact ⟨fun h => by rw [State.judgeAbsent_leaves h], fun ha hc => by rw [State.judgeAbsent_stays ha hc]⟩
  · intro s b sent
    refine ⟨State.goIdle_present, fun hp hnone => ?_, fun hp p hpending hheld => ?_⟩
    · rw [State.goIdle_absent hp]
      split
      · next p hpending => exact if_neg (by simp [hnone p hpending])
      · rfl
    · rw [State.goIdle_absent hp, hpending]
      exact if_pos hheld
  · intro s b x hb ht hx free
    rw [exec_bindingExpiry hb ht hx]
    refine ⟨fun cls g insp wish hpass => ?_, fun n hpass => ?_⟩
    · rw [State.discardBinding_gross hx hpass]
      rfl
    · rw [State.discardBinding_tare hx hpass]

section

variable {s : State} {b : BridgeNo}

/-! ## Faults and zeros (R104, R105, R107, R111) -/

/-- What holds a CLEAR FAULT back (R111). -/
theorem State.anyStanding_iff : s.anyStanding b = true ↔
    (s.channel b).active = ⟨0, 0, 0, 0, 0, 0⟩ ∨ (s.channel b).cal.valid = false ∨ (s.channel b).wireOff = true ∨
      (s.channel b).overrange = true ∨ (s.channel b).underrange = true := by
  simp only [State.anyStanding, State.stands, Bool.or_eq_true, beq_iff_eq, Bool.not_eq_true', or_assoc]
  rfl

/-- With no range flag both persistence timers start afresh as stopped (R111). -/
theorem State.restartTimers_stopped (ho : (s.channel b).overrange = false) (hu : (s.channel b).underrange = false) :
    s.restartTimers b = s.modBridge b fun x => { x with overTimer := .stopped, underTimer := .stopped } := by
  rw [State.restartTimers, ho, hu]
  rfl

theorem decideClearFault_unlocked (h : (s.bridge b).state ≠ .locked) :
    decideClearFault (bridgeCode b) s = .refuse .wrongState := by
  simp only [decideClearFault, bridgeOf_code, if_pos h]

theorem decideClearFault_standing (h : (s.bridge b).state = .locked) (hs : s.anyStanding b = true) :
    decideClearFault (bridgeCode b) s = .refuse .locked := by
  simp only [decideClearFault, bridgeOf_code, if_neg (not_not.mpr h), if_pos hs]

theorem decideClearFault_taken (h : (s.bridge b).state = .locked) (hs : s.anyStanding b = false) :
    decideClearFault (bridgeCode b) s =
      .take (((s.modBridge b fun x => { x with lockCause := none, zeroDue := true }).restartTimers b).goIdle b) .none := by
  simp only [decideClearFault, bridgeOf_code, if_neg (not_not.mpr h), hs, if_neg Bool.false_ne_true]

theorem decideZeroNow_idle (h : (s.bridge b).state = .idle) :
    decideZeroNow (bridgeCode b) s = .take (s.modBridge b fun x => { x with zeroRequest := true }) .none := by
  simp only [decideZeroNow, bridgeOf_code, if_neg (not_not.mpr h)]

theorem decideZeroNow_busy (h : (s.bridge b).state ≠ .idle) :
    decideZeroNow (bridgeCode b) s = .refuse .wrongState := by
  simp only [decideZeroNow, bridgeOf_code, if_pos h]

/-- A zero deadline that falls due is re-armed, and the backlog rises while it can (R104, R105). -/
theorem State.zeroMinute_due (h : (s.bridge b).zeroDeadline ≤ s.clock.minutes) :
    s.zeroMinute b = State.rearmZero
      (if (s.bridge b).backlog < Config.backlogLimit then
        s.modBridge b fun x => { x with
          backlog := x.backlog + 1, zeroDue := x.zeroDue || decide (s.shift.working.urgentLimit ≤ x.backlog + 1) }
      else s) b :=
  if_pos h

theorem State.rearmZero_eq (h : fits32 (s.clock.minutes + s.shift.working.zeroInterval)) : s.rearmZero b =
    s.modBridge b fun x => { x with zeroDeadline := s.clock.minutes + s.shift.working.zeroInterval } := by
  rw [State.rearmZero, State.minutesFromNow, add32_fits h]

end

/-- Settles O22: the requests by their decisions, the deadline by `State.zeroMinute_due`. -/
theorem faultsAreClearedAndZerosFallDue : Obligations.FaultsAreClearedAndZerosFallDue := by
  refine ⟨fun s tag b hready => ⟨fun n hn => ⟨?_, ?_⟩, ?_, ?_, ?_, ?_, ?_⟩, ?_⟩
  · exact exec_refused hready (.clearFault n) (by simp only [decideRequest, decideClearFault, bridgeOf_bad n hn]) rfl
  · exact exec_refused hready (.zeroNow n) (by simp only [decideRequest, decideZeroNow, bridgeOf_bad n hn]) rfl
  · intro hl hactive hvalid hwire hover hunder
    have hnone : s.anyStanding b = false := by
      rw [← Bool.not_eq_true, State.anyStanding_iff]
      simp [hactive, hvalid, hwire, hover, hunder]
    rw [← State.restartTimers_stopped (s := s.modBridge b fun x => { x with lockCause := none, zeroDue := true })
      hover hunder]
    exact exec_taken hready (.clearFault (bridgeCode b)) (decideClearFault_taken hl hnone) rfl
  · intro hl hstands
    exact exec_refused hready (.clearFault (bridgeCode b))
      (decideClearFault_standing hl (State.anyStanding_iff.mpr hstands)) rfl
  · intro hl
    exact exec_refused hready (.clearFault (bridgeCode b)) (decideClearFault_unlocked hl) rfl
  · intro hi
    exact exec_taken hready (.zeroNow (bridgeCode b)) (decideZeroNow_idle hi) rfl
  · intro hi
    exact exec_refused hready (.zeroNow (bridgeCode b)) (decideZeroNow_busy hi) rfl
  · intro s b hdue hfits rearmed
    have hexec : exec (.zeroDeadlineExpiry b) s = .next (s.zeroMinute b).settleLink := rfl
    rw [hexec, State.zeroMinute_due hdue]
    refine ⟨fun hlow => ?_, fun hfull => ?_⟩
    · rw [if_pos (show (s.bridge b).backlog < Config.backlogLimit from hlow), State.rearmZero_eq (by exact hfits)]
      rfl
    · rw [if_neg (show ¬ (s.bridge b).backlog < Config.backlogLimit from Nat.not_lt.mpr hfull),
        State.rearmZero_eq hfits]

section

variable {s : State} {b : BridgeNo}

/-! ## Range flags (R108 to R110) -/

/-- The first standing condition, in the order of R110. -/
theorem State.firstStanding_eq : s.firstStanding b =
    if (s.channel b).active = ⟨0, 0, 0, 0, 0, 0⟩ then some .unconfigured
    else if (s.channel b).cal.valid = false then some .calInvalid
    else if (s.channel b).wireOff = true then some .wireOff
    else if (s.bridge b).timer .over = .ranOut then some .overrange
    else if (s.bridge b).timer .under = .ranOut then some .underrange
    else none := by
  have find_cons (p : LockCause → Bool) (a : LockCause) (l : List LockCause) :
      (a :: l).find? p = if p a = true then some a else l.find? p := by
    cases h : p a <;> simp [h]
  simp only [State.firstStanding, standingOrder, find_cons, List.find?_nil, State.stands, beq_iff_eq, Bool.not_eq_true',
    Bridge.timer]
  rfl

theorem exec_rangePersistence {k : RangeKind} {left : Nat} (h : (s.bridge b).timer k = .running left) :
    exec (.rangePersistenceExpiry b k) s =
      .next (State.arise (s.modBridge b fun x => x.setTimer k .ranOut) b (rangeCause k)).settleLink := by
  have hrun : s.persistenceExpired b k = (s.modBridge b fun x => x.setTimer k .ranOut).arise b (rangeCause k) := by
    simp only [State.persistenceExpired, h]
  rw [← hrun]
  rfl

/-- A lock condition that arises on a bridge that is neither bound nor weighing nor locked already (R109). -/
theorem State.arise_free (h : (s.bridge b).state = .idle ∨ (s.bridge b).state = .arrived ∨
    (s.bridge b).state = .clearing) (cause : LockCause) : s.arise b cause = s.enterLocked b cause none := by
  rcases h with h | h | h <;> simp only [State.arise, h]

theorem State.arise_bound (h : (s.bridge b).state = .bound) (cause : LockCause) :
    s.arise b cause = (s.discardBinding b).enterLocked b cause (s.bridge b).binding := by
  simp only [State.arise, h]

theorem State.arise_capture (h : (s.bridge b).state = .capture) (cause : LockCause) :
    s.arise b cause = s.modBridge b fun x => { x with pendingCause := some (x.pendingCause.getD cause) } := by
  simp only [State.arise, h]

theorem State.arise_kept (h : (s.bridge b).state = .locked ∨ (s.bridge b).state = .calibrating) (cause : LockCause) :
    s.arise b cause = s := by
  rcases h with h | h <;> simp only [State.arise, h]

@[simp] theorem Bridge.setTimer_state (x : Bridge) (k : RangeKind) (p : Persistence) :
    (x.setTimer k p).state = x.state := by cases k <;> rfl

@[simp] theorem Bridge.setTimer_binding (x : Bridge) (k : RangeKind) (p : Persistence) :
    (x.setTimer k p).binding = x.binding := by cases k <;> rfl

@[simp] theorem Bridge.setTimer_lockCause (x : Bridge) (k : RangeKind) (p : Persistence) :
    (x.setTimer k p).lockCause = x.lockCause := by cases k <;> rfl

/-- The other range condition. -/
def otherRange : RangeKind → RangeKind
  | .over => .under
  | .under => .over

/-- A range flag cleared with its timer, before its condition ceases (R108). -/
def State.rangeCleared (s : State) (b : BridgeNo) (k : RangeKind) : State :=
  (s.modChannel b fun c => c.setRangeFlag k false).modBridge b fun x => x.setTimer k .stopped

/-- Once a range flag's timer has stopped, only the other one can still stand beside the channel's own conditions. -/
theorem State.rangeCleared_firstStanding (k : RangeKind) : (s.rangeCleared b k).firstStanding b =
    if (s.channel b).active = ⟨0, 0, 0, 0, 0, 0⟩ then some .unconfigured
    else if (s.channel b).cal.valid = false then some .calInvalid
    else if (s.channel b).wireOff = true then some .wireOff
    else if (s.bridge b).timer (otherRange k) = .ranOut then some (rangeCause (otherRange k))
    else none := by
  rw [State.firstStanding_eq]
  cases k <;>
    simp only [State.rangeCleared, State.modBridge_bridge, State.modBridge_channel, State.modChannel_bridge,
      State.modChannel_channel, Channel.setRangeFlag, Bridge.setTimer, Bridge.timer, otherRange, rangeCause,
      reduceCtorEq, if_false] <;>
    rfl

/-- A condition ceases on a bridge LOCKED with it: the first other standing one takes its place, if there is one (R110). -/
theorem State.ceased_locked {cause : LockCause} (h : (s.bridge b).state = .locked)
    (hc : (s.bridge b).lockCause = some cause) : s.ceased b cause = match s.firstStanding b with
      | some next => s.modBridge b fun x => { x with lockCause := some next }
      | none => s := if_pos ⟨h, hc⟩

end

/-- Settles O23: the arising by `State.arise`'s cases, the ceasing by `State.setRange_clears` and
`State.rangeCleared_firstStanding`. -/
theorem lastingRangeFlagsLockTheBridge : Obligations.LastingRangeFlagsLockTheBridge := by
  refine ⟨fun s b k left hrun => ?_, fun s b k => ?_⟩
  · intro cause out locked
    have hcause : rangeCause k = cause := by cases k <;> rfl
    have hstate : (out.bridge b).state = (s.bridge b).state := by simp [out]
    have hbinding : (out.bridge b).binding = (s.bridge b).binding := by simp [out]
    rw [exec_rangePersistence hrun, hcause, ← hstate, ← hbinding]
    refine ⟨fun h => ?_, fun h => ?_, fun h => ?_, fun h => ?_⟩
    · rw [State.arise_free h]
      rfl
    · rw [State.arise_bound h]
      rfl
    · rw [State.arise_capture h]
    · rw [State.arise_kept h]
  · intro cause other cleared standing hflag hlocked hc
    have hcause : cause k = rangeCause k := by cases k <;> rfl
    have hstanding : (s.rangeCleared b k).firstStanding b = standing := by
      rw [State.rangeCleared_firstStanding]
      cases k <;> rfl
    have hceased : (s.rangeCleared b k).ceased b (rangeCause k) = _ :=
      State.ceased_locked (by simp [State.rangeCleared, hlocked]) (by simp [State.rangeCleared, hc, hcause])
    rw [hstanding] at hceased
    rw [State.setRange_clears hflag]
    refine ⟨fun h => ?_, fun next hran hnext => ?_⟩
    · split
      · next hran =>
        have hnone : standing = none := h.resolve_left (not_not.mpr hran)
        rw [hnone] at hceased
        exact hceased
      · rfl
    · rw [hnext] at hceased
      rw [if_pos (by exact hran)]
      exact hceased

end Sys2Proof.Machine

/-! SUPPORT. Calibration sessions: how they begin, step and end. -/
namespace Sys2Proof.Machine

open Sys2Proof

section

variable {s : State} {b : BridgeNo}

/-! ## A session begins and steps (R112, R134, R135) -/

theorem Channel.not_busy {c : Channel} (ho : c.owed = none) (hp : ∀ p, c.pending = some p → p.held = false) :
    c.busy = false := by
  unfold Channel.busy
  cases h : c.pending with
  | none => simp [ho]
  | some p => simp [ho, hp p h]

section

variable (hbusy : (s.channel b).busy = false) (hreserve : s.reservationRefusal 1 = none)

include hbusy hreserve

theorem decideCalBegin_idle (h : (s.bridge b).state = .idle) : decideCalBegin (bridgeCode b) s =
    .take (((s.reserve 1).modChannel b fun c => { c with session := some Session.fresh }).enterCalibrating b .idle)
      .none := by
  simp only [decideCalBegin, bridgeOf_code, h, hbusy, hreserve, if_neg Bool.false_ne_true]

theorem decideCalBegin_locked {cause : LockCause} (h : (s.bridge b).state = .locked)
    (hc : (s.bridge b).lockCause = some cause) (hmay : cause = .calInvalid ∨ cause = .zeroBand) :
    decideCalBegin (bridgeCode b) s =
      .take (((s.reserve 1).modChannel b fun c => { c with session := some Session.fresh }).enterCalibrating b
        (.locked cause)) .none := by
  rcases hmay with rfl | rfl <;>
    simp only [decideCalBegin, bridgeOf_code, h, hc, hbusy, hreserve, if_neg Bool.false_ne_true]

end

theorem decideCalBegin_refusedLocked {cause : LockCause} (h : (s.bridge b).state = .locked)
    (hc : (s.bridge b).lockCause = some cause) (hcal : cause ≠ .calInvalid) (hzero : cause ≠ .zeroBand) :
    decideCalBegin (bridgeCode b) s = .refuse .locked := by
  simp only [decideCalBegin, bridgeOf_code, h, hc]
  cases cause with
  | calInvalid => exact absurd rfl hcal
  | zeroBand => exact absurd rfl hzero
  | _ => rfl

theorem decideCalBegin_wrongState (hi : (s.bridge b).state ≠ .idle) (hl : (s.bridge b).state ≠ .locked) :
    decideCalBegin (bridgeCode b) s = .refuse .wrongState := by
  cases h : (s.bridge b).state with
  | idle => exact absurd h hi
  | locked => exact absurd h hl
  | _ => simp only [decideCalBegin, bridgeOf_code, h]

/-- The end of a period by an event (R123), field by field. -/
theorem Channel.endPeriod_fields (c : Channel) :
    c.endPeriod = { c with period := none, lastStable := if c.period.isSome then false else c.lastStable } := by
  obtain ⟨⟩ := c
  unfold Channel.endPeriod
  dsimp only
  split <;> rfl

theorem State.beginStep_eq (x : Session) : s.beginStep b x = s.modChannel b fun c => { c with
    session := some { x with idle := some 1800000 }, period := none
    lastStable := if c.period.isSome then false else c.lastStable } := by
  rw [State.beginStep, State.endPeriod, State.modChannel_modChannel]
  exact State.modChannel_congr (Channel.endPeriod_fields _)

section

variable {x : Session} (hx : (s.channel b).session = some x)

include hx

theorem State.stepSession_free (hstep : x.step = none) (hc : x.committed = false) : s.stepSession b = some x := by
  simp only [State.stepSession, hx, hstep, hc]
  rfl

theorem State.stepSession_busy (h : x.step.isSome = true ∨ x.committed = true) : s.stepSession b = none := by
  simp only [State.stepSession, hx]
  exact if_pos (by simpa using h)

end

theorem decideCalZero_taken {x : Session} (h : s.stepSession b = some x) : decideCalZero (bridgeCode b) s =
    .take (s.beginStep b { x with zeroResult := none, step := some ⟨.zero, Config.calStepMs⟩ }) .none := by
  simp only [decideCalZero, bridgeOf_code, h]

theorem decideCalZero_busy (h : s.stepSession b = none) : decideCalZero (bridgeCode b) s = .refuse .wrongState := by
  simp only [decideCalZero, bridgeOf_code, h]

theorem decideCalSpan_badField {m : Nat}
    (h : m * 10 < (s.channel b).active.capacity ∨ (s.channel b).active.capacity < m) :
    decideCalSpan (bridgeCode b) m s = .refuse .badField := by
  simp only [decideCalSpan, bridgeOf_code, if_pos h]

section

variable {m : Nat} (hleast : (s.channel b).active.capacity ≤ m * 10) (hmost : m ≤ (s.channel b).active.capacity)

include hleast hmost

theorem decideCalSpan_taken {x : Session} (h : s.stepSession b = some x) : decideCalSpan (bridgeCode b) m s =
    .take (s.beginStep b { x with spanResult := none, step := some ⟨.span m, Config.calStepMs⟩ }) .none := by
  simp only [decideCalSpan, bridgeOf_code, h]
  exact if_neg (by omega)

theorem decideCalSpan_busy (h : s.stepSession b = none) :
    decideCalSpan (bridgeCode b) m s = .refuse .wrongState := by
  simp only [decideCalSpan, bridgeOf_code, h]
  exact if_neg (by omega)

end

end

/-- Settles O44, request by request. -/
theorem calibrationSessionsBeginAndStep : Obligations.CalibrationSessionsBeginAndStep := by
  refine ⟨?_, ?_⟩
  · intro s tag b hready howed hpending hstore hfree fresh begun
    have hbusy := Channel.not_busy howed hpending
    have hreserve := State.reservationRefusal_none 1 hstore hfree
    refine ⟨fun h => ?_, fun cause h hc => ⟨fun hmay => ?_, fun hcal hzero => ?_⟩, fun hi hl => ?_⟩
    · exact exec_taken hready (.calBegin (bridgeCode b)) (decideCalBegin_idle hbusy hreserve h) rfl
    · exact exec_taken hready (.calBegin (bridgeCode b)) (decideCalBegin_locked hbusy hreserve h hc hmay) rfl
    · exact exec_refused hready (.calBegin (bridgeCode b)) (decideCalBegin_refusedLocked h hc hcal hzero) rfl
    · exact exec_refused hready (.calBegin (bridgeCode b)) (decideCalBegin_wrongState hi hl) rfl
  · intro s tag b x m hready hx stepped
    refine ⟨fun hstep hc => ⟨?_, fun hleast hmost => ?_⟩, fun hbad => ?_, fun h => ⟨?_, fun hleast hmost => ?_⟩⟩
    · have hfree := State.stepSession_free hx hstep hc
      exact exec_taken hready (.calZero (bridgeCode b))
        ((decideCalZero_taken hfree).trans (congrArg (Decision.take · .none) (State.beginStep_eq _))) rfl
    · have hfree := State.stepSession_free hx hstep hc
      exact exec_taken hready (.calSpan (bridgeCode b) m)
        ((decideCalSpan_taken hleast hmost hfree).trans (congrArg (Decision.take · .none) (State.beginStep_eq _))) rfl
    · exact exec_refused hready (.calSpan (bridgeCode b) m) (decideCalSpan_badField hbad) rfl
    · exact exec_refused hready (.calZero (bridgeCode b)) (decideCalZero_busy (State.stepSession_busy hx h)) rfl
    · exact exec_refused hready (.calSpan (bridgeCode b) m)
        (decideCalSpan_busy hleast hmost (State.stepSession_busy hx h)) rfl

section

variable {s t u : State} {b : BridgeNo}

/-! ## What stays apart from one bridge -/

/-- From `s` to `t` no other bridge and no other channel changes, and nothing of what the accounts' owners hold beside a
binding's reservations: no delivery, vehicle, crushing, window, shift or time, and no byte waiting at the port. -/
structure State.SparesOthers (b : BridgeNo) (s t : State) : Prop where
  records : t.dt.records = s.dt.records
  vehicles : t.vehicles = s.vehicles
  feed : t.feed = s.feed
  windows : t.windows = s.windows
  shift : t.shift = s.shift
  clock : t.clock = s.clock
  pending : t.pending = s.pending
  input : t.link.input = s.link.input
  others : ∀ d, d ≠ b → t.bridge d = s.bridge d ∧ t.channel d = s.channel d

/-- From `s` to `t` only the bridge itself, its channel and the lines change. -/
structure State.OnlyBridge (b : BridgeNo) (s t : State) : Prop extends State.SparesOthers b s t where
  dt : t.dt = s.dt
  growers : t.growers = s.growers
  store : t.store = s.store
  link : t.link = s.link

theorem State.SparesOthers.refl (s : State) (b : BridgeNo) : s.SparesOthers b s :=
  ⟨rfl, rfl, rfl, rfl, rfl, rfl, rfl, rfl, fun _ _ => ⟨rfl, rfl⟩⟩

theorem State.SparesOthers.trans (h : State.SparesOthers b s t) (k : State.SparesOthers b t u) :
    State.SparesOthers b s u :=
  ⟨k.records.trans h.records, k.vehicles.trans h.vehicles, k.feed.trans h.feed, k.windows.trans h.windows,
    k.shift.trans h.shift, k.clock.trans h.clock, k.pending.trans h.pending, k.input.trans h.input,
    fun d hd => ⟨(k.others d hd).1.trans (h.others d hd).1, (k.others d hd).2.trans (h.others d hd).2⟩⟩

theorem State.OnlyBridge.refl (s : State) (b : BridgeNo) : s.OnlyBridge b s :=
  ⟨.refl s b, rfl, rfl, rfl, rfl⟩

theorem State.OnlyBridge.trans (h : State.OnlyBridge b s t) (k : State.OnlyBridge b t u) : State.OnlyBridge b s u :=
  ⟨h.toSparesOthers.trans k.toSparesOthers, k.dt.trans h.dt, k.growers.trans h.growers, k.store.trans h.store,
    k.link.trans h.link⟩

variable (s b)

theorem State.modBridge_onlyBridge (f : Bridge → Bridge) : s.OnlyBridge b (s.modBridge b f) :=
  ⟨⟨rfl, rfl, rfl, rfl, rfl, rfl, rfl, rfl, fun _ hd => ⟨State.modBridge_bridge_ne f hd, rfl⟩⟩, rfl, rfl, rfl, rfl⟩

theorem State.modChannel_onlyBridge (f : Channel → Channel) : s.OnlyBridge b (s.modChannel b f) :=
  ⟨⟨rfl, rfl, rfl, rfl, rfl, rfl, rfl, rfl, fun _ hd => ⟨rfl, State.modChannel_channel_ne f hd⟩⟩, rfl, rfl, rfl, rfl⟩

theorem State.endPeriod_onlyBridge : s.OnlyBridge b (s.endPeriod b) := s.modChannel_onlyBridge b _

theorem State.setZero_onlyBridge (zero : Int) : s.OnlyBridge b (s.setZero b zero) :=
  (s.modBridge_onlyBridge b fun x => { x with currentZero := zero }).trans (State.endPeriod_onlyBridge _ b)

theorem State.rearmZero_onlyBridge : s.OnlyBridge b (s.rearmZero b) := s.modBridge_onlyBridge b _

theorem State.takeZero_onlyBridge (zero : Int) : s.OnlyBridge b (s.takeZero b zero) :=
  ((s.setZero_onlyBridge b zero).trans (State.modBridge_onlyBridge _ b _)).trans (State.rearmZero_onlyBridge _ b)

theorem State.restartTimers_onlyBridge : s.OnlyBridge b (s.restartTimers b) := s.modBridge_onlyBridge b _

theorem State.notify_sparesOthers (body : NoticeBody) : s.SparesOthers b (s.notify body) :=
  ⟨by simp, by simp, by simp, by simp, by simp, by simp, by simp, by simp,
    fun _ _ => ⟨by simp [State.bridge], by simp [State.channel]⟩⟩

theorem State.raise_sparesOthers (f : Flag) : s.SparesOthers b (s.raise f) :=
  ⟨rfl, rfl, rfl, rfl, rfl, rfl, rfl, rfl, fun _ _ => ⟨rfl, rfl⟩⟩

theorem State.enterLocked_sparesOthers (cause : LockCause) (x : Option Binding) :
    s.SparesOthers b (s.enterLocked b cause x) :=
  ((s.modBridge_onlyBridge b _).toSparesOthers.trans (State.notify_sparesOthers _ b _)).trans
    (State.raise_sparesOthers _ b _)

/-- What an entry to LOCKED makes of the link. -/
theorem State.enterLocked_link (cause : LockCause) (x : Option Binding) :
    (s.enterLocked b cause x).link = ((s.notify (.bridgeLocked b cause x)).raise .bridgeLocked).link := by
  have hlink (u : State) (h : u.link = s.link) : ((u.notify (.bridgeLocked b cause x)).raise .bridgeLocked).link =
      ((s.notify (.bridgeLocked b cause x)).raise .bridgeLocked).link :=
    State.raise_link_congr (State.notify_link_congr h _) _
  exact hlink _ rfl

theorem State.enterLocked_accounts (cause : LockCause) (x : Option Binding) :
    (s.enterLocked b cause x).channels = s.channels ∧ (s.enterLocked b cause x).dt = s.dt ∧
      (s.enterLocked b cause x).growers = s.growers := by
  simp [State.enterLocked]

end

section

variable {s : State} {b : BridgeNo}

/-! ## A session ends (R112, R136, R137) -/

/-- A session's end gives its slot back and starts the persistence timers afresh (R112, R137). -/
def State.sessionClosed (s : State) (b : BridgeNo) : State :=
  ((s.modChannel b fun c => { c with session := none }).giveBack 1).restartTimers b

/-- Where a session's end takes its bridge: back to LOCKED with its cause, or to IDLE (R112). -/
def State.sessionBack (s : State) (b : BridgeNo) (entry : Option EntryState) : State :=
  match entry with
  | some (.locked cause) => (s.sessionClosed b).enterLocked b cause none
  | _ => (s.sessionClosed b).goIdle b

theorem State.sessionClosed_entry : ((s.sessionClosed b).bridge b).entry = (s.bridge b).entry := by
  simp [State.sessionClosed, State.restartTimers, State.bridge, State.modBridge, State.driveLamps]

theorem State.endSession_eq : s.endSession b = s.sessionBack b (s.bridge b).entry := by
  have hentry := State.sessionClosed_entry (s := s) (b := b)
  rw [State.sessionClosed] at hentry
  unfold State.endSession State.sessionBack State.sessionClosed
  dsimp only
  rcases h : (s.bridge b).entry with _ | _ | cause <;> simp only [hentry, h]

section

variable {x : Session} (hx : (s.channel b).session = some x) (hc : x.committed = false)

include hx hc

theorem decideCalEnd_abandon : decideCalEnd (bridgeCode b) 2 s = .take (s.endSession b) .none := by
  simp [decideCalEnd, bridgeOf_code, hx, hc, State.calAbandon]

theorem decideCalEnd_commit {zero span : Int} {mass : Nat} (hstep : x.step = none) (hz : x.zeroResult = some zero)
    (hs : x.spanResult = some (span, mass)) : decideCalEnd (bridgeCode b) 1 s = s.calCommit b x zero span mass := by
  simp [decideCalEnd, bridgeOf_code, hx, hc, hstep, hz, hs]

theorem decideCalEnd_unready (h : x.step.isSome = true ∨ x.zeroResult = none ∨ x.spanResult = none) :
    decideCalEnd (bridgeCode b) 1 s = .refuse .wrongState := by
  simp only [decideCalEnd, bridgeOf_code, hx, hc]
  split
  · next habsurd => simp at habsurd
  · split
    · rfl
    · split
      · next habsurd => simp at habsurd
      · split
        · next hstep hz hs => simp [hstep, hz, hs] at h
        · rfl

end

/-- A COMMIT whose counts lie too close together ends the session with last outcome BAD (R137). -/
theorem State.calCommit_bad {x : Session} {zero span : Int} {mass : Nat} (h : span - zero < Config.minimumSpan) :
    s.calCommit b x zero span mass = .take
      ((State.endSession (s.modChannel b fun c => { c with
        cal := { c.cal with outcome := .bad }, period := none
        lastStable := if c.period.isSome then false else c.lastStable }) b).notify (.calStep b .commit .bad none))
      (.committed true) := by
  have hended : (s.modChannel b fun c => { c with cal := { c.cal with outcome := .bad } }).endPeriod b =
      s.modChannel b fun c => { c with
        cal := { c.cal with outcome := .bad }, period := none
        lastStable := if c.period.isSome then false else c.lastStable } := by
    rw [State.endPeriod, State.modChannel_modChannel]
    exact State.modChannel_congr (Channel.endPeriod_fields _)
  simp only [State.calCommit, if_pos h, hended]

/-- A good COMMIT asks for the CAL record (R137). -/
theorem State.calCommit_good {x : Session} {zero span : Int} {mass : Nat} (h : Config.minimumSpan ≤ span - zero) :
    s.calCommit b x zero span mass = .take
      ((s.modChannel b fun c => { c with session := some { x with idle := none, committed := true } }).requestWrite
        (.session b) (.cal
          { channel := b, replaced := (s.channel b).cal
            new := { zeroCounts := zero, spanCounts := span, testMass := mass, valid := true, outcome := .done } }))
      (.committed false) := if_neg (Int.not_lt.mpr h)

theorem exec_calStepTimeout {x : Session} {k : CalStepKind} {left : Nat} (hx : (s.channel b).session = some x)
    (hstep : x.step = some ⟨k, left⟩) : exec (.calStepTimeout b) s = .next (State.settleLink
      ((s.modChannel b fun c => { c with session := some { x with step := none } }).notify
        (.calStep b (match k with | .zero => .zero | .span _ => .span) .timedOut none))) := by
  have htimed : s.stepTimeout b = (s.modChannel b fun c => { c with session := some { x with step := none } }).notify
      (.calStep b (match k with | .zero => .zero | .span _ => .span) .timedOut none) := by
    cases k <;> simp only [State.stepTimeout, hx, hstep]
  exact congrArg (fun t : State => Host.Outcome.next t.settleLink) htimed

theorem exec_calIdleTimeout {x : Session} (hx : (s.channel b).session = some x) (hidle : x.idle.isSome = true) :
    exec (.calIdleTimeout b) s =
      .next ((s.endSession b).notify (.calStep b .whole .abandoned none)).settleLink := by
  have htimed : s.sessionTimeout b = (s.endSession b).notify (.calStep b .whole .abandoned none) := by
    simp only [State.sessionTimeout, hx, if_pos hidle]
  exact congrArg (fun t : State => Host.Outcome.next t.settleLink) htimed

/-! ## The CAL record completes (R138) -/

/-- A lone write's completion, where the requester's step asks for nothing more: what it makes of the state stands, and
the port sends. -/
theorem exec_writeComplete_lone {f : InFlight} {u : State} (hlone : s.loneWrite f)
    (hu : (s.recorded f).requesterComplete f.record.sequence f.request = u)
    (hstore : u.store = (s.recorded f).store) (hinput : u.link.input = []) :
    ∃ t, exec .writeComplete s = .next t ∧ t.endsLink u.link ∧
      t = { u with store := s.store.completed f, link := t.link } := by
  let w : State := { u with store := s.store.completed f }
  have hdone : s.completeWrite = w := State.completeWrite_lone hlone hu hstore
  have hempty : w.link.input = [] := hinput
  refine ⟨w.settleLink, congrArg (fun t : State => Host.Outcome.next t.settleLink) hdone, ⟨w, rfl, rfl⟩, ?_⟩
  rw [w.settleLink_of_empty hempty]
  exact w.pump_only

/-- The channel and the bridge once a commit's calibration and its zero are taken (R106, R112, R138). -/
def State.zeroTaken (s : State) (b : BridgeNo) (new : Calibration) : State :=
  let ended := (s.modChannel b fun c => { c with cal := new, session := none }).endPeriod b
  (ended.takeZero b new.zeroCounts).restartTimers b

theorem State.zeroTaken_onlyBridge (new : Calibration) : s.OnlyBridge b (s.zeroTaken b new) :=
  (((s.modChannel_onlyBridge b _).trans (State.endPeriod_onlyBridge _ b)).trans
    (State.takeZero_onlyBridge _ b _)).trans (State.restartTimers_onlyBridge _ b)

theorem State.zeroTaken_channel (new : Calibration) : (s.zeroTaken b new).channel b = { s.channel b with
    cal := new, session := none, period := none
    lastStable := if (s.channel b).period.isSome then false else (s.channel b).lastStable } := by
  rw [State.zeroTaken, State.restartTimers, State.modBridge_channel, State.takeZero_channel, State.endPeriod,
    State.modChannel_channel, State.modChannel_channel, Channel.endPeriod_fields, Channel.endPeriod_fields]
  rfl

theorem State.zeroTaken_bridge {new : Calibration} (hfits : fits32 (s.clock.minutes + s.shift.working.zeroInterval)) :
    (s.zeroTaken b new).bridge b = { s.bridge b with
      currentZero := new.zeroCounts, backlog := 0, zeroDue := false, zeroRequest := false
      zeroDeadline := s.clock.minutes + s.shift.working.zeroInterval
      overTimer := freshTimer (s.channel b).overrange, underTimer := freshTimer (s.channel b).underrange } := by
  rw [State.zeroTaken, State.restartTimers, State.modBridge_bridge, State.takeZero_channel, State.endPeriod,
    State.modChannel_channel, State.modChannel_channel, Channel.endPeriod_fields, Channel.endPeriod_fields,
    State.takeZero_bridge (by exact hfits)]
  rfl

/-- The bridge after a commit: its zero taken, and sent to IDLE or ARRIVED (R94, R112). -/
def State.calibrated (s : State) (b : BridgeNo) (new : Calibration) : State :=
  (s.zeroTaken b new).modBridge b fun x => { x with
    state := if x.present then .arrived else .idle, lockCause := none, pendingCause := none, entry := none }

theorem State.calibrated_onlyBridge (new : Calibration) : s.OnlyBridge b (s.calibrated b new) :=
  (s.zeroTaken_onlyBridge new).trans (State.modBridge_onlyBridge _ b _)

theorem State.calibrated_channel (new : Calibration) : (s.calibrated b new).channel b = { s.channel b with
    cal := new, session := none, period := none
    lastStable := if (s.channel b).period.isSome then false else (s.channel b).lastStable } := by
  rw [State.calibrated, State.modBridge_channel, State.zeroTaken_channel]

theorem State.calibrated_bridge {new : Calibration} (hfits : fits32 (s.clock.minutes + s.shift.working.zeroInterval)) :
    (s.calibrated b new).bridge b = { s.bridge b with
      currentZero := new.zeroCounts, backlog := 0, zeroDue := false, zeroRequest := false
      zeroDeadline := s.clock.minutes + s.shift.working.zeroInterval
      overTimer := freshTimer (s.channel b).overrange, underTimer := freshTimer (s.channel b).underrange
      state := if (s.bridge b).present then .arrived else .idle
      lockCause := none, pendingCause := none, entry := none } := by
  rw [State.calibrated, State.modBridge_bridge, State.zeroTaken_bridge hfits]

/-- What a session's CAL record's completion makes of the state it is recorded in: CAL STEP, and then LOCKED where a
wire-off was kept (R109, R138). -/
def State.sessionDone (s : State) (b : BridgeNo) (new : Calibration) (wireOff : Bool) : State :=
  let told := (s.calibrated b new).notify (.calStep b .commit .done none)
  if wireOff then told.enterLocked b .wireOff none else told

theorem State.sessionComplete_eq {y : Session} (x : CalBody) (hy : (s.channel b).session = some y)
    (hpending : ∀ p, (s.channel b).pending = some p → p.held = false)
    (hfits : fits32 (s.clock.minutes + s.shift.working.zeroInterval)) :
    s.sessionComplete b x = s.sessionDone b x.new y.wireOff := by
  have hidle : (s.zeroTaken b x.new).goIdle b = s.calibrated b x.new :=
    State.goIdle_plain (by rw [State.zeroTaken_channel]; exact hpending)
  let told := (s.calibrated b x.new).notify (.calStep b .commit .done none)
  have hstate : (told.bridge b).state = if (s.bridge b).present then .arrived else .idle := by
    have htold : told.bridge b = (s.calibrated b x.new).bridge b := by simp [told, State.bridge]
    rw [htold, State.calibrated_bridge hfits]
  have harise : told.arise b .wireOff = told.enterLocked b .wireOff none := by
    refine State.arise_free ?_ _
    rw [hstate]
    cases (s.bridge b).present <;> simp
  rw [State.sessionDone, ← harise]
  simp only [State.sessionComplete, hy, told, ← hidle]
  rfl

theorem State.sessionDone_sparesOthers (new : Calibration) (w : Bool) : s.SparesOthers b (s.sessionDone b new w) := by
  have htold := (s.calibrated_onlyBridge (b := b) new).toSparesOthers.trans
    (State.notify_sparesOthers _ b (.calStep b .commit .done none))
  cases w with
  | false => exact htold
  | true => exact htold.trans (State.enterLocked_sparesOthers _ b _ _)

theorem State.sessionDone_accounts (new : Calibration) (w : Bool) :
    let t := s.sessionDone b new w
    t.channel b = (s.calibrated b new).channel b ∧ t.dt = s.dt ∧ t.growers = s.growers ∧ t.store = s.store := by
  intro t
  have hc := s.calibrated_onlyBridge (b := b) new
  cases w with
  | false => exact ⟨by simp [t, State.sessionDone, State.channel], by simp [t, State.sessionDone, hc.dt],
      by simp [t, State.sessionDone, hc.growers], by simp [t, State.sessionDone, hc.store]⟩
  | true =>
    obtain ⟨hchannels, hdt, hgrowers⟩ := State.enterLocked_accounts
      ((s.calibrated b new).notify (.calStep b .commit .done none)) b .wireOff none
    exact ⟨by simp [t, State.sessionDone, State.channel, hchannels], by simp [t, State.sessionDone, hdt, hc.dt],
      by simp [t, State.sessionDone, hgrowers, hc.growers], by simp [t, State.sessionDone, hc.store]⟩

theorem State.sessionDone_bridge (new : Calibration) (w : Bool) : (s.sessionDone b new w).bridge b =
    ((s.calibrated b new).bridge b).takeState (if w then some .wireOff else none) := by
  have htold : ((s.calibrated b new).notify (.calStep b .commit .done none)).bridge b =
      (s.calibrated b new).bridge b := by simp [State.bridge]
  rw [← htold]
  cases w with
  | false => rfl
  | true => exact State.enterLocked_bridge _ b .wireOff none

theorem State.sessionDone_link (new : Calibration) (w : Bool) :
    let told := s.notify (.calStep b .commit .done none)
    (s.sessionDone b new w).link =
      if w then ((told.notify (.bridgeLocked b .wireOff none)).raise .bridgeLocked).link else told.link := by
  intro told
  have htold : ((s.calibrated b new).notify (.calStep b .commit .done none)).link = told.link :=
    State.notify_link_congr (s.calibrated_onlyBridge new).link _
  cases w with
  | false => exact htold
  | true =>
    exact (State.enterLocked_link _ b _ _).trans (State.raise_link_congr (State.notify_link_congr htold _) _)

end

/-- Settles O45: CAL END by its decisions, the timeouts by `exec_calStepTimeout` and `exec_calIdleTimeout`, the
completion by `State.sessionComplete_eq`. -/
theorem calibrationSessionsEnd : Obligations.CalibrationSessionsEnd := by
  refine ⟨?_, ?_, ?_⟩
  · intro s tag b x hready hx hc back
    have hback (t : State) (ht : (t.bridge b).entry = (s.bridge b).entry) : t.endSession b = back t := by
      rw [State.endSession_eq, ht]
      unfold back State.sessionBack State.sessionClosed
      rcases (s.bridge b).entry with _ | _ | _ <;> rfl
    refine ⟨?_, fun zero span mass hstep hz hs => ⟨fun hbad => ?_, fun hgood => ?_⟩, fun h => ?_⟩
    · exact (exec_taken hready (.calEnd (bridgeCode b) 2) (decideCalEnd_abandon hx hc) rfl).trans
        (congrArg (fun t => Host.Outcome.next (State.okReply t 0xCF tag .none)) (hback s rfl))
    · have hended := hback (s.modChannel b fun c => { c with
        cal := { c.cal with outcome := .bad }, period := none
        lastStable := if c.period.isSome then false else c.lastStable }) rfl
      rw [← hended]
      exact exec_taken hready (.calEnd (bridgeCode b) 1)
        ((decideCalEnd_commit hx hc hstep hz hs).trans (State.calCommit_bad hbad)) rfl
    · exact exec_taken hready (.calEnd (bridgeCode b) 1)
        ((decideCalEnd_commit hx hc hstep hz hs).trans (State.calCommit_good hgood)) rfl
    · exact exec_refused hready (.calEnd (bridgeCode b) 1) (decideCalEnd_unready hx hc h) rfl
  · intro s b x hx
    refine ⟨fun k left hstep => ?_, fun hidle => ?_⟩
    · rw [exec_calStepTimeout hx hstep]
      cases k <;> rfl
    · rw [exec_calIdleTimeout hx hidle, State.endSession_eq]
      unfold State.sessionBack State.sessionClosed
      rcases (s.bridge b).entry with _ | _ | _ <;> rfl
  · intro s f b x y hinput hlone hreq hy hpending hfits
    let r := s.recorded f
    let u := r.sessionDone b x.new y.wireOff
    have hu : r.requesterComplete f.record.sequence f.request = u := by
      have hcomplete : r.requesterComplete f.record.sequence f.request = r.sessionComplete b x := by
        simp only [State.requesterComplete, hreq]
      exact hcomplete.trans (State.sessionComplete_eq (s := r) x hy hpending hfits)
    have hspares : r.SparesOthers b u := r.sessionDone_sparesOthers x.new y.wireOff
    obtain ⟨hchannel, hdt, hgrowers, hstore⟩ := r.sessionDone_accounts (b := b) x.new y.wireOff
    have hbridge : u.bridge b = ((r.calibrated b x.new).bridge b).takeState _ := r.sessionDone_bridge x.new y.wireOff
    rw [State.calibrated_bridge (s := r) hfits] at hbridge
    have hlink : u.link = _ := r.sessionDone_link (b := b) x.new y.wireOff
    obtain ⟨t, hexec, hends, ht⟩ := exec_writeComplete_lone hlone hu hstore (hspares.input.trans hinput)
    have htb : t.bridge b = u.bridge b := by rw [ht]; rfl
    have htc : t.channel b = u.channel b := by rw [ht]; rfl
    have hkept : (t.bridge b).currentZero = x.new.zeroCounts ∧ (t.bridge b).backlog = 0 ∧
        (t.bridge b).zeroDue = false ∧
        (t.bridge b).zeroDeadline = s.clock.minutes + s.shift.working.zeroInterval ∧
        (t.bridge b).present = (s.bridge b).present := by
      rw [htb, hbridge]
      cases y.wireOff <;> exact ⟨rfl, rfl, rfl, rfl, rfl⟩
    obtain ⟨hzero, hbacklog, hdue, hdeadline, hpresent⟩ := hkept
    have htold : (r.notify (.calStep b .commit .done none)).link = (s.notify (.calStep b .commit .done none)).link :=
      State.notify_link_congr (s := r) (t := s) rfl _
    rw [hlink] at hends
    refine ⟨t, hexec, ?_, hzero, hbacklog, hdue, hdeadline, hpresent, fun hw => ?_, fun hw => ?_,
      ⟨fun hw => ?_, fun hw => ?_⟩, by rw [ht], fun d hd => ?_, ?_⟩
    · rw [htc, hchannel, State.calibrated_channel]
      rfl
    · rw [htb, hbridge, hw]
      rfl
    · rw [htb, hbridge, hw]
      exact ⟨rfl, rfl⟩
    · rwa [hw, if_neg (by decide), htold] at hends
    · rwa [hw, if_pos rfl, State.raise_link_congr (State.notify_link_congr htold _) _] at hends
    · rw [ht]
      exact hspares.others d hd
    · rw [ht]
      exact ⟨hdt, hspares.vehicles, hspares.feed, hspares.windows, hgrowers, hspares.shift, hspares.clock,
        hspares.pending⟩

end Sys2Proof.Machine

/-! SUPPORT. Wire-off: what its rise and its end make of the channel, the bridge and the port. -/
namespace Sys2Proof.Machine

open Sys2Proof

section

variable {s t u : State} {b : BridgeNo}

/-! ## A reading that goes (R120, R125) -/

/-- From `s` to `t` the bridge keeps its state and its binding, and beside its timers and cause only its channel and the
lines change. -/
structure State.OnlyReading (b : BridgeNo) (s t : State) : Prop extends State.OnlyBridge b s t where
  state : (t.bridge b).state = (s.bridge b).state
  binding : (t.bridge b).binding = (s.bridge b).binding

theorem State.OnlyReading.refl (s : State) (b : BridgeNo) : s.OnlyReading b s := ⟨.refl s b, rfl, rfl⟩

theorem State.OnlyReading.trans (h : State.OnlyReading b s t) (k : State.OnlyReading b t u) :
    State.OnlyReading b s u :=
  ⟨h.toOnlyBridge.trans k.toOnlyBridge, k.state.trans h.state, k.binding.trans h.binding⟩

theorem State.modChannel_onlyReading (f : Channel → Channel) : s.OnlyReading b (s.modChannel b f) :=
  ⟨s.modChannel_onlyBridge b f, rfl, rfl⟩

theorem State.modBridge_onlyReading {f : Bridge → Bridge} (hstate : (f (s.bridge b)).state = (s.bridge b).state)
    (hbinding : (f (s.bridge b)).binding = (s.bridge b).binding) : s.OnlyReading b (s.modBridge b f) :=
  ⟨s.modBridge_onlyBridge b f, by rw [State.modBridge_bridge, hstate], by rw [State.modBridge_bridge, hbinding]⟩

theorem State.setTimer_onlyReading (k : RangeKind) (p : Persistence) :
    s.OnlyReading b (s.modBridge b fun x => x.setTimer k p) :=
  State.modBridge_onlyReading (Bridge.setTimer_state _ k p) (Bridge.setTimer_binding _ k p)

theorem State.ceased_onlyReading (cause : LockCause) : s.OnlyReading b (s.ceased b cause) := by
  unfold State.ceased
  split
  · split
    · exact State.modBridge_onlyReading rfl rfl
    · exact .refl s b
  · exact .refl s b

theorem State.ceased_channel (cause : LockCause) : (s.ceased b cause).channel b = s.channel b := by
  unfold State.ceased
  split
  · split <;> rfl
  · rfl

theorem State.setRange_onlyReading (k : RangeKind) (v : Bool) : s.OnlyReading b (s.setRange b k v) := by
  unfold State.setRange
  dsimp only
  split
  · exact .refl s b
  · refine (State.modChannel_onlyReading fun c => c.setRangeFlag k v).trans ?_
    split
    · split
      · exact .refl _ b
      · exact State.setTimer_onlyReading k _
    · split
      · exact (State.setTimer_onlyReading k _).trans (State.ceased_onlyReading _)
      · exact State.setTimer_onlyReading k _

theorem Channel.setRangeFlag_same {c : Channel} {k : RangeKind} {v : Bool} (h : c.rangeFlag k = v) :
    c.setRangeFlag k v = c := by
  cases k <;> cases h <;> rfl

theorem State.setRange_channel (k : RangeKind) (v : Bool) :
    (s.setRange b k v).channel b = (s.channel b).setRangeFlag k v := by
  unfold State.setRange
  dsimp only
  split
  · next h => exact (Channel.setRangeFlag_same h).symm
  · split
    · split <;> simp
    · split <;> simp [State.ceased_channel]

theorem State.emptyMean_onlyReading : s.OnlyReading b (s.emptyMean b) :=
  ((State.modChannel_onlyReading _).trans (State.modChannel_onlyReading Channel.endPeriod)).trans
    ((State.setRange_onlyReading .over false).trans (State.setRange_onlyReading .under false))

theorem State.emptyMean_channel : (s.emptyMean b).channel b = { s.channel b with
    mean := [], rounded := none, period := none
    lastStable := if (s.channel b).period.isSome then false else (s.channel b).lastStable
    overrange := false, underrange := false } := by
  rw [State.emptyMean, State.setRange_channel, State.setRange_channel, State.endPeriod, State.modChannel_channel,
    State.modChannel_channel, Channel.endPeriod_fields]
  rfl

/-! ## The judgement of presence leaves alone (R93, R94) -/

theorem State.judgePresence_onlyBridge : s.OnlyBridge b (s.judgePresence b) := by
  unfold State.judgePresence
  split
  · split
    · exact s.modBridge_onlyBridge b _
    · exact (s.modBridge_onlyBridge b _).trans (State.endPeriod_onlyBridge _ b)
  · split
    · exact s.modBridge_onlyBridge b _
    · exact .refl s b

/-- At most the stability period in progress goes. -/
theorem State.judgePresence_channel :
    (s.judgePresence b).channel b = s.channel b ∨ (s.judgePresence b).channel b = (s.channel b).endPeriod := by
  unfold State.judgePresence
  split
  · split
    · exact .inl rfl
    · exact .inr (State.modChannel_channel b _)
  · split <;> exact .inl rfl

theorem State.judgePresence_bridge :
    ((s.judgePresence b).bridge b).binding = (s.bridge b).binding ∧
      ((s.judgePresence b).bridge b).lockCause = (s.bridge b).lockCause ∧
      ((s.bridge b).state ≠ .idle → ((s.judgePresence b).bridge b).state = (s.bridge b).state) := by
  unfold State.judgePresence
  split
  · split
    · simp
    · rw [State.endPeriod, State.modChannel_bridge, State.modBridge_bridge]
      exact ⟨rfl, rfl, fun h => if_neg h⟩
  · split
    · simp
    · exact ⟨rfl, rfl, fun _ => rfl⟩

/-! ## What is given back (R99, R171) -/

theorem State.judgeStore_sparesOthers : s.SparesOthers b s.judgeStore := by
  have hinput : s.judgeStore.link.input = s.link.input := congrArg (·.2.2.2.2.2.2.2.2) s.judgeStore_beside
  exact ⟨by simp, by simp, by simp, by simp, by simp, by simp, by simp, hinput,
    fun _ _ => ⟨by simp [State.bridge], by simp [State.channel]⟩⟩

theorem State.judgeStore_store :
    s.judgeStore.store = { s.store with state := s.judgeStore.store.state } := by
  rcases State.judgeStore_cases (s := s) with h | ⟨next, -, -, -, -, h⟩
  · rw [h]
  · rw [h]
    dsimp only
    split <;> simp

theorem State.giveBack_sparesOthers (k : Nat) : s.SparesOthers b (s.giveBack k) :=
  State.SparesOthers.trans (t := { s with store := { s.store with reserved := s.store.reserved - k } })
    ⟨rfl, rfl, rfl, rfl, rfl, rfl, rfl, rfl, fun _ _ => ⟨rfl, rfl⟩⟩ State.judgeStore_sparesOthers

theorem State.giveBack_store (k : Nat) : (s.giveBack k).store =
    { s.store with reserved := s.store.reserved - k, state := (s.giveBack k).store.state } :=
  State.judgeStore_store

/-- The state the store's judgement finds (R171, R172). -/
def State.judgedStore (s : State) : StoreState :=
  if s.free < s.store.reserved + Config.lowThreshold then .low else .normal

theorem State.judgeStore_link : s.judgeStore.link =
    if s.store.state = .failed ∨ s.judgedStore = s.store.state then s.link
    else
      let told := s.notify (.storeAlarm s.judgedStore s.free s.store.reserved)
      if s.judgedStore = .low then (told.raise .storeLow).link else told.link := by
  let set (x : StoreState) : State := { s with store := { s.store with state := x } }
  have htold (x : StoreState) (body : NoticeBody) : ((set x).notify body).link = (s.notify body).link :=
    State.notify_link_congr (s := set x) (t := s) rfl body
  have hjudge : s.judgeStore =
      if s.store.state = .failed then s
      else if s.judgedStore = s.store.state then s
      else
        let told := (set s.judgedStore).notify (.storeAlarm s.judgedStore s.free s.store.reserved)
        if s.judgedStore = .low then told.raise .storeLow else told := rfl
  rw [hjudge]
  by_cases hf : s.store.state = .failed
  · rw [if_pos hf, if_pos (.inl hf)]
  · by_cases hj : s.judgedStore = s.store.state
    · rw [if_neg hf, if_pos hj, if_pos (.inr hj)]
    · rw [if_neg hf, if_neg hj, if_neg (not_or.mpr ⟨hf, hj⟩)]
      dsimp only
      by_cases hlow : s.judgedStore = .low
      · rw [if_pos hlow, if_pos hlow]
        exact State.raise_link_congr (htold _ _) _
      · rw [if_neg hlow, if_neg hlow]
        exact htold _ _

/-- What the store's judgement makes of the link depends on the link and on what it judges alone. -/
theorem State.judgeStore_link_congr (hlink : s.link = t.link) (hstate : s.store.state = t.store.state)
    (hfree : s.free = t.free) (hreserved : s.store.reserved = t.store.reserved) :
    s.judgeStore.link = t.judgeStore.link := by
  have hjudged : s.judgedStore = t.judgedStore := by rw [State.judgedStore, State.judgedStore, hfree, hreserved]
  rw [State.judgeStore_link, State.judgeStore_link, hjudged, hstate, hfree, hreserved]
  dsimp only
  rw [State.raise_link_congr (State.notify_link_congr hlink _) _, State.notify_link_congr hlink, hlink]

/-- What is given back reaches the link by the store's judgement alone. -/
theorem State.giveBack_link_congr (hlink : s.link = t.link) (hstate : s.store.state = t.store.state)
    (hfree : s.free = t.free) (hreserved : s.store.reserved = t.store.reserved) (k : Nat) :
    (s.giveBack k).link = (t.giveBack k).link :=
  State.judgeStore_link_congr hlink hstate hfree (congrArg (· - k) hreserved)

theorem State.discardBinding_link_congr (hbinding : (s.bridge b).binding = (t.bridge b).binding)
    (hstore : s.store = t.store) (hlink : s.link = t.link) :
    (s.discardBinding b).link = (t.discardBinding b).link := by
  let cleared (u : State) : State := u.modBridge b fun y => { y with binding := none, bindTimer := none }
  have hback (k : Nat) : ((cleared s).giveBack k).link = ((cleared t).giveBack k).link := by
    refine State.giveBack_link_congr (s := cleared s) (t := cleared t) hlink ?_ ?_ ?_ k
    · exact congrArg Store.state hstore
    · exact congrArg (fun x : Store => Config.accountingCapacity - (x.lastSequence - x.exportMark)) hstore
    · exact congrArg Store.reserved hstore
  cases hx : (t.bridge b).binding with
  | none => simp only [State.discardBinding, hbinding, hx, hlink]
  | some x =>
    cases hp : x.pass with
    | gross v g m k =>
      simp only [State.discardBinding, hbinding, hx, hp]
      exact hback 2
    | tare n =>
      simp only [State.discardBinding, hbinding, hx, hp]
      exact hback 1

theorem State.discardBinding_sparesOthers : s.SparesOthers b (s.discardBinding b) := by
  have hcleared := (s.modBridge_onlyBridge b fun y => { y with binding := none, bindTimer := none }).toSparesOthers
  cases hx : (s.bridge b).binding with
  | none =>
    simp only [State.discardBinding, hx]
    exact .refl s b
  | some x =>
    cases hp : x.pass with
    | gross v g m k =>
      simp only [State.discardBinding, hx, hp]
      refine (hcleared.trans (State.giveBack_sparesOthers 2)).trans ?_
      exact ⟨rfl, rfl, rfl, rfl, rfl, rfl, rfl, rfl, fun _ _ => ⟨rfl, rfl⟩⟩
    | tare n =>
      simp only [State.discardBinding, hx, hp]
      exact hcleared.trans (State.giveBack_sparesOthers 1)

theorem State.discardBinding_channels : (s.discardBinding b).channels = s.channels := by
  unfold State.discardBinding
  dsimp only
  split
  · rfl
  · split <;> simp

theorem State.discardBinding_binding : ((s.discardBinding b).bridge b).binding = none := by
  cases hx : (s.bridge b).binding with
  | none => simp only [State.discardBinding, hx]
  | some x =>
    cases hp : x.pass <;> simp only [State.discardBinding, hx, hp] <;>
      simp [State.bridge]

/-! ## A session's request withdrawn (R138, R173) -/

theorem Store.moveUp_only (x : Store) :
    x.moveUp = { x with shared := x.moveUp.shared, waiting := x.moveUp.waiting } := by
  unfold Store.moveUp
  split
  · split <;> rfl
  · rfl

/-- A request that moves up stays asked for. -/
theorem Store.moveUp_requests (x : Store) : x.moveUp.shared ++ x.moveUp.waiting = x.shared ++ x.waiting := by
  unfold Store.moveUp
  split
  · split
    · rfl
    · next h => simp [h]
  · rfl

theorem Store.withdraw_only (x : Store) :
    x.withdraw b = { x with shared := (x.withdraw b).shared, waiting := (x.withdraw b).waiting } :=
  Store.moveUp_only _

theorem Store.withdraw_requests (x : Store) :
    ∀ r ∈ (x.withdraw b).shared ++ (x.withdraw b).waiting, r.requester ≠ .session b := by
  intro r hr
  rw [Store.withdraw, Store.moveUp_requests, ← List.filter_append, List.mem_filter] at hr
  simpa using hr.2

theorem Store.sessionWriting_iff (x : Store) :
    x.sessionWriting b = true ↔ ∃ f, x.inFlight = some f ∧ f.request.requester = .session b := by
  unfold Store.sessionWriting
  cases x.inFlight with
  | none => simp
  | some f => simp

/-- Wherever the bridge stands, a condition that arises changes no channel and spares the others (R109). -/
theorem State.arise_spares (cause : LockCause) :
    s.SparesOthers b (s.arise b cause) ∧ (s.arise b cause).channels = s.channels := by
  cases h : (s.bridge b).state with
  | idle | arrived | clearing =>
    rw [State.arise_free (by simp [h])]
    exact ⟨s.enterLocked_sparesOthers b _ _, (s.enterLocked_accounts b _ _).1⟩
  | bound =>
    rw [State.arise_bound h]
    exact ⟨State.discardBinding_sparesOthers.trans (State.enterLocked_sparesOthers _ b _ _),
      (State.enterLocked_accounts _ b _ _).1.trans State.discardBinding_channels⟩
  | capture =>
    rw [State.arise_capture h]
    exact ⟨(s.modBridge_onlyBridge b _).toSparesOthers, rfl⟩
  | calibrating | locked =>
    rw [State.arise_kept (by simp [h])]
    exact ⟨.refl s b, rfl⟩

/-! ## Wire-off reaches the bridge (R109, R112, R126) -/

theorem State.wireOffBridge_writing (h : (s.bridge b).state = .calibrating) (hw : s.store.sessionWriting b = true) :
    s.wireOffBridge b =
      s.modChannel b fun c => { c with session := c.session.map fun x => { x with wireOff := true } } := by
  rw [State.wireOffBridge, if_pos h, if_pos hw]

theorem State.wireOffBridge_else (h : (s.bridge b).state ≠ .calibrating) :
    s.wireOffBridge b = s.arise b .wireOff := if_neg h

/-- A session that a wire-off ends: its request withdrawn, its slot given back, CAL STEP made (R112, R138). -/
def State.sessionAbandoned (s : State) (b : BridgeNo) : State :=
  let withdrawn : State := { s with store := s.store.withdraw b }
  ((withdrawn.modChannel b fun c => { c with session := none }).giveBack 1).notify (.calStep b .whole .abandoned none)

theorem State.wireOffBridge_session (h : (s.bridge b).state = .calibrating)
    (hw : s.store.sessionWriting b = false) :
    s.wireOffBridge b = ((s.sessionAbandoned b).restartTimers b).enterLocked b .wireOff none := by
  rw [State.wireOffBridge, if_pos h, if_neg (by simp [hw])]
  rfl

theorem State.sessionAbandoned_sparesOthers : s.SparesOthers b (s.sessionAbandoned b) := by
  let withdrawn : State := { s with store := s.store.withdraw b }
  have hwithdrawn : s.SparesOthers b withdrawn :=
    ⟨rfl, rfl, rfl, rfl, rfl, rfl, rfl, rfl, fun _ _ => ⟨rfl, rfl⟩⟩
  exact ((hwithdrawn.trans (withdrawn.modChannel_onlyBridge b _).toSparesOthers).trans
    (State.giveBack_sparesOthers 1)).trans (State.notify_sparesOthers _ b _)

theorem State.sessionAbandoned_link : (s.sessionAbandoned b).link =
    ((s.giveBack 1).notify (.calStep b .whole .abandoned none)).link := by
  let ended : State := State.modChannel { s with store := s.store.withdraw b } b fun c => { c with session := none }
  have hended : ended.store = s.store.withdraw b := rfl
  rw [Store.withdraw_only] at hended
  refine State.notify_link_congr (State.giveBack_link_congr (s := ended) (t := s) rfl ?_ ?_ ?_ 1) _
  · rw [hended]
  · rw [State.free, State.written, hended]
    rfl
  · rw [hended]

theorem State.sessionAbandoned_store : (s.sessionAbandoned b).store.reserved = s.store.reserved - 1 ∧
    ∀ r ∈ (s.sessionAbandoned b).store.shared ++ (s.sessionAbandoned b).store.waiting, r.requester ≠ .session b := by
  have hstore : (s.sessionAbandoned b).store = { s.store.withdraw b with
      reserved := (s.store.withdraw b).reserved - 1, state := (s.sessionAbandoned b).store.state } := by
    rw [State.sessionAbandoned, State.notify_store]
    exact State.giveBack_store 1
  refine ⟨?_, ?_⟩
  · rw [hstore, Store.withdraw_only]
  · rw [hstore]
    exact Store.withdraw_requests s.store

theorem State.sessionAbandoned_channel :
    (s.sessionAbandoned b).channel b = { s.channel b with session := none } := by
  simp [State.sessionAbandoned, State.channel]

/-- Wherever the bridge stands, what a wire-off makes of it leaves its channel but for the session, and all others. -/
theorem State.wireOffBridge_spares : s.SparesOthers b (s.wireOffBridge b) ∧
    ∃ x, (s.wireOffBridge b).channel b = { s.channel b with session := x } := by
  by_cases hcal : (s.bridge b).state = .calibrating
  · cases hw : s.store.sessionWriting b with
    | true =>
      rw [State.wireOffBridge_writing hcal hw]
      exact ⟨(s.modChannel_onlyBridge b _).toSparesOthers, _, State.modChannel_channel b _⟩
    | false =>
      rw [State.wireOffBridge_session hcal hw]
      refine ⟨(State.sessionAbandoned_sparesOthers.trans (State.restartTimers_onlyBridge _ b).toSparesOthers).trans
        (State.enterLocked_sparesOthers _ b _ _), none, ?_⟩
      rw [← State.sessionAbandoned_channel]
      exact congrArg (·.get b) (State.enterLocked_accounts ((s.sessionAbandoned b).restartTimers b) b .wireOff none).1
  · rw [State.wireOffBridge_else hcal]
    obtain ⟨hspares, hchannels⟩ := State.arise_spares (s := s) (b := b) .wireOff
    exact ⟨hspares, (s.channel b).session, congrArg (·.get b) hchannels⟩

/-! ## The two rows of the table (R126) -/

/-- A row that answers by the port's own step, where no byte waits at the port: only the link is left to change. -/
theorem exec_settles {i : Instr} (hexec : exec i s = .next u.settleLink) (hinput : u.link.input = []) :
    ∃ t, exec i s = .next t ∧ t.endsLink u.link ∧ t = { u with link := t.link } := by
  refine ⟨u.settleLink, hexec, State.endsLink_settleLink u, ?_⟩
  rw [u.settleLink_of_empty hinput]
  exact u.pump_only

/-- The channel without its reading, as the wire-off then reaches its bridge (R125, R126; logs 8, 37). -/
def State.wireFallen (s : State) (b : BridgeNo) : State :=
  State.emptyMean (s.modChannel b fun c =>
    { c with failRun := max c.failRun Config.wireOffRun, passRun := 0, wireOff := true }) b

theorem State.wireFallen_onlyReading : s.OnlyReading b (s.wireFallen b) :=
  (State.modChannel_onlyReading _).trans State.emptyMean_onlyReading

theorem State.wireFallen_channel : (s.wireFallen b).channel b = { s.channel b with
    mean := [], rounded := none, period := none
    lastStable := if (s.channel b).period.isSome then false else (s.channel b).lastStable
    overrange := false, underrange := false
    failRun := max (s.channel b).failRun Config.wireOffRun, passRun := 0, wireOff := true } := by
  rw [State.wireFallen, State.emptyMean_channel, State.modChannel_channel]

/-- The state as the rise of the wire-off flag leaves it, before the port's own step (R126). -/
def State.wireDown (s : State) (b : BridgeNo) : State := ((s.wireFallen b).wireOffBridge b).judgePresence b

theorem exec_wireOffRaise (h : (s.channel b).wireOff = false) : exec (.wireOffRaise b) s =
    .next (s.wireDown b).settleLink := by
  have hrun : s.wireOffRun b = s.wireDown b := by
    rw [State.wireOffRun, if_neg (by simp [h]), State.raiseWireOff, State.modChannel_modChannel]
    rfl
  exact congrArg (fun t : State => Host.Outcome.next t.settleLink) hrun

/-- The channel once its wire-off has gone: its mean begins to fill (R126). -/
def State.wireMended (s : State) (b : BridgeNo) : State :=
  s.modChannel b fun c =>
    { c with passRun := max c.passRun Config.wireClearRun, failRun := 0, wireOff := false, mean := [] }

/-- The state as the end of the wire-off flag leaves it, before the port's own step (R126). -/
def State.wireUp (s : State) (b : BridgeNo) : State := ((s.wireMended b).ceased b .wireOff).judgePresence b

theorem exec_wireOffClear (h : (s.channel b).wireOff = true) : exec (.wireOffClear b) s =
    .next (s.wireUp b).settleLink := by
  have hrun : s.wireClearRun b = s.wireUp b := by
    rw [State.wireClearRun, if_pos h, State.clearWireOff, State.modChannel_modChannel]
    rfl
  exact congrArg (fun t : State => Host.Outcome.next t.settleLink) hrun

end

section

variable {s : State} {b : BridgeNo}

/-! ## What a wire-off leaves, by the bridge's state (R109, R112) -/

theorem State.wireDown_spares : s.SparesOthers b (s.wireDown b) :=
  (State.wireFallen_onlyReading.toSparesOthers.trans State.wireOffBridge_spares.1).trans
    State.judgePresence_onlyBridge.toSparesOthers

/-- No period is in progress, so the judgement of presence keeps the channel. -/
theorem State.wireDown_channel_eq : (s.wireDown b).channel b = ((s.wireFallen b).wireOffBridge b).channel b := by
  obtain ⟨-, x, hx⟩ := State.wireOffBridge_spares (s := s.wireFallen b) (b := b)
  rw [State.wireFallen_channel] at hx
  rcases State.judgePresence_channel (s := (s.wireFallen b).wireOffBridge b) (b := b) with h | h
  · exact h
  · rw [State.wireDown, h, hx, Channel.endPeriod_fields]
    rfl

theorem State.wireDown_channel : ∃ x, (s.wireDown b).channel b = { (s.wireFallen b).channel b with session := x } := by
  rw [State.wireDown_channel_eq]
  exact State.wireOffBridge_spares.2

/-- The judgement of presence keeps a LOCKED bridge so. -/
theorem State.wireDown_locked {p : State} {gone : Option Binding}
    (h : (s.wireFallen b).wireOffBridge b = p.enterLocked b .wireOff gone) :
    ((s.wireDown b).bridge b).state = .locked ∧ ((s.wireDown b).bridge b).lockCause = some .wireOff ∧
      ((s.wireDown b).bridge b).binding = (p.bridge b).binding ∧ (s.wireDown b).store = p.store ∧
      (s.wireDown b).link = ((p.notify (.bridgeLocked b .wireOff gone)).raise .bridgeLocked).link := by
  have hbridge : (p.enterLocked b .wireOff gone).bridge b = (p.bridge b).takeState (some .wireOff) :=
    p.enterLocked_bridge b .wireOff gone
  obtain ⟨hbinding, hcause, hstate⟩ := State.judgePresence_bridge (s := p.enterLocked b .wireOff gone) (b := b)
  have honly := State.judgePresence_onlyBridge (s := p.enterLocked b .wireOff gone) (b := b)
  rw [hbridge] at hbinding hcause hstate
  rw [State.wireDown, h]
  exact ⟨hstate nofun, hcause, hbinding, honly.store.trans (p.enterLocked_store b _ _),
    honly.link.trans (p.enterLocked_link b _ _)⟩

theorem State.wireDown_free (h : (s.bridge b).state = .idle ∨ (s.bridge b).state = .arrived ∨
    (s.bridge b).state = .clearing) :
    ((s.wireDown b).bridge b).state = .locked ∧ ((s.wireDown b).bridge b).lockCause = some .wireOff ∧
      (s.wireDown b).link = ((s.notify (.bridgeLocked b .wireOff none)).raise .bridgeLocked).link := by
  have hu := State.wireFallen_onlyReading (s := s) (b := b)
  rw [← hu.state] at h
  have hbridge : (s.wireFallen b).wireOffBridge b = (s.wireFallen b).enterLocked b .wireOff none := by
    rw [State.wireOffBridge_else (by rcases h with h | h | h <;> simp [h]), State.arise_free h]
  obtain ⟨hstate, hcause, -, -, hlink⟩ := State.wireDown_locked hbridge
  exact ⟨hstate, hcause, hlink.trans (State.raise_link_congr (State.notify_link_congr hu.link _) _)⟩

theorem State.wireDown_bound (h : (s.bridge b).state = .bound) :
    ((s.wireDown b).bridge b).state = .locked ∧ ((s.wireDown b).bridge b).lockCause = some .wireOff ∧
      ((s.wireDown b).bridge b).binding = none ∧
      (s.wireDown b).link =
        (((s.discardBinding b).notify (.bridgeLocked b .wireOff (s.bridge b).binding)).raise .bridgeLocked).link := by
  have hu := State.wireFallen_onlyReading (s := s) (b := b)
  rw [← hu.state] at h
  have hbridge : (s.wireFallen b).wireOffBridge b =
      ((s.wireFallen b).discardBinding b).enterLocked b .wireOff (s.bridge b).binding := by
    rw [State.wireOffBridge_else (by simp [h]), State.arise_bound h, hu.binding]
  have hdiscarded : ((s.wireFallen b).discardBinding b).link = (s.discardBinding b).link :=
    State.discardBinding_link_congr hu.binding hu.store hu.link
  obtain ⟨hstate, hcause, hbinding, -, hlink⟩ := State.wireDown_locked hbridge
  exact ⟨hstate, hcause, hbinding.trans State.discardBinding_binding,
    hlink.trans (State.raise_link_congr (State.notify_link_congr hdiscarded _) _)⟩

/-- A wire-off locks a bridge that neither weighs nor calibrates (R109). -/
theorem State.wireDown_locks (h : (s.bridge b).state = .idle ∨ (s.bridge b).state = .arrived ∨
    (s.bridge b).state = .clearing ∨ (s.bridge b).state = .bound) :
    ((s.wireDown b).bridge b).state = .locked ∧ ((s.wireDown b).bridge b).lockCause = some .wireOff := by
  rw [← or_assoc, ← or_assoc, or_assoc (a := (s.bridge b).state = .idle)] at h
  rcases h with hfree | hbound
  · obtain ⟨hstate, hcause, -⟩ := State.wireDown_free hfree
    exact ⟨hstate, hcause⟩
  · obtain ⟨hstate, hcause, -⟩ := State.wireDown_bound hbound
    exact ⟨hstate, hcause⟩

theorem State.wireDown_kept (h : (s.bridge b).state = .capture ∨ (s.bridge b).state = .locked) :
    (s.wireDown b).link = s.link := by
  have hu := State.wireFallen_onlyReading (s := s) (b := b)
  rw [← hu.state] at h
  have hbridge : ((s.wireFallen b).wireOffBridge b).link = (s.wireFallen b).link := by
    rcases h with h | h
    · rw [State.wireOffBridge_else (by simp [h]), State.arise_capture h]
      rfl
    · rw [State.wireOffBridge_else (by simp [h]), State.arise_kept (.inl h)]
  exact State.judgePresence_onlyBridge.link.trans (hbridge.trans hu.link)

section

variable (h : (s.bridge b).state = .calibrating)

include h

/-- A session that its record does not yet hold ends at the wire-off (R112). -/
theorem State.wireDown_session (hw : s.store.sessionWriting b = false) :
    ((s.wireDown b).bridge b).state = .locked ∧ ((s.wireDown b).bridge b).lockCause = some .wireOff ∧
      ((s.wireDown b).channel b).session = none ∧ (s.wireDown b).store.reserved = s.store.reserved - 1 ∧
      (∀ r ∈ (s.wireDown b).store.shared ++ (s.wireDown b).store.waiting, r.requester ≠ .session b) ∧
      (s.wireDown b).link = ((((s.giveBack 1).notify (.calStep b .whole .abandoned none)).notify
        (.bridgeLocked b .wireOff none)).raise .bridgeLocked).link := by
  have hu := State.wireFallen_onlyReading (s := s) (b := b)
  have hbridge : (s.wireFallen b).wireOffBridge b =
      (((s.wireFallen b).sessionAbandoned b).restartTimers b).enterLocked b .wireOff none :=
    State.wireOffBridge_session (hu.state.trans h) (by rw [hu.store, hw])
  have hgiven : ((s.wireFallen b).giveBack 1).link = (s.giveBack 1).link := by
    refine State.giveBack_link_congr hu.link ?_ ?_ ?_ 1
    · rw [hu.store]
    · rw [State.free, State.free, State.written, State.written, hu.store]
    · rw [hu.store]
  have habandoned : ((s.wireFallen b).sessionAbandoned b).link =
      ((s.giveBack 1).notify (.calStep b .whole .abandoned none)).link :=
    State.sessionAbandoned_link.trans (State.notify_link_congr hgiven _)
  obtain ⟨hstate, hcause, -, hstore, hlink⟩ := State.wireDown_locked hbridge
  obtain ⟨hreserved, hrequests⟩ := State.sessionAbandoned_store (s := s.wireFallen b) (b := b)
  have hrestarted := State.restartTimers_onlyBridge ((s.wireFallen b).sessionAbandoned b) b
  have hsession : ((s.wireDown b).channel b).session = none := by
    rw [State.wireDown_channel_eq, hbridge, State.channel, (State.enterLocked_accounts _ b _ _).1]
    change (((s.wireFallen b).sessionAbandoned b).channel b).session = none
    rw [State.sessionAbandoned_channel]
  rw [hu.store] at hreserved
  rw [hstore, hrestarted.store]
  exact ⟨hstate, hcause, hsession, hreserved, hrequests, hlink.trans
    (State.raise_link_congr (State.notify_link_congr (hrestarted.link.trans habandoned) _) _)⟩

/-- A session whose record is being written keeps the wire-off for the completion (R138; log 14). -/
theorem State.wireDown_writing (hw : s.store.sessionWriting b = true) :
    ((s.wireDown b).bridge b).state = .calibrating ∧ (s.wireDown b).store = s.store ∧
      ((s.wireDown b).channel b).session = (s.channel b).session.map (fun x => { x with wireOff := true }) ∧
      (s.wireDown b).link = s.link := by
  have hu := State.wireFallen_onlyReading (s := s) (b := b)
  have hbridge := State.wireOffBridge_writing (s := s.wireFallen b) (hu.state.trans h) (by rw [hu.store, hw])
  obtain ⟨-, -, hstate⟩ := State.judgePresence_bridge (s := (s.wireFallen b).wireOffBridge b) (b := b)
  have honly := State.judgePresence_onlyBridge (s := (s.wireFallen b).wireOffBridge b) (b := b)
  rw [hbridge, State.modChannel_bridge, hu.state, h] at hstate
  refine ⟨?_, ?_, ?_, ?_⟩
  · rw [State.wireDown, hbridge]
    exact hstate nofun
  · rw [State.wireDown, honly.store, hbridge]
    exact hu.store
  · rw [State.wireDown_channel_eq, hbridge, State.modChannel_channel, State.wireFallen_channel]
  · rw [State.wireDown, honly.link, hbridge]
    exact hu.link

end

/-! ## What the end of a wire-off leaves (R110, R126) -/

theorem State.wireUp_onlyBridge : s.OnlyBridge b (s.wireUp b) :=
  ((s.modChannel_onlyBridge b _).trans (State.ceased_onlyReading _).toOnlyBridge).trans State.judgePresence_onlyBridge

theorem State.wireUp_binding : ((s.wireUp b).bridge b).binding = (s.bridge b).binding :=
  State.judgePresence_bridge.1.trans (State.ceased_onlyReading (s := s.wireMended b) _).binding

theorem State.wireUp_channel : ((s.wireUp b).channel b).wireOff = false ∧ ((s.wireUp b).channel b).mean = [] ∧
    ((s.wireUp b).channel b).failRun = 0 := by
  have hmended : ((s.wireMended b).ceased b .wireOff).channel b = (s.wireMended b).channel b := State.ceased_channel _
  have hjudged := State.judgePresence_channel (s := (s.wireMended b).ceased b .wireOff) (b := b)
  rw [hmended, State.wireMended, State.modChannel_channel] at hjudged
  rcases hjudged with h | h
  · rw [State.wireUp, State.wireMended, h]
    exact ⟨rfl, rfl, rfl⟩
  · rw [State.wireUp, State.wireMended, h, Channel.endPeriod_fields]
    exact ⟨rfl, rfl, rfl⟩

end

/-- Settles O49: the rise by `State.wireDown`'s cases over the bridge's state, the end by `exec_wireOffClear`. -/
theorem wireOffIsRaisedAndCleared : Obligations.WireOffIsRaisedAndCleared := by
  intro s b hinput
  refine ⟨fun hflag => ?_, fun hflag => ?_, fun hflag => ?_, fun hflag => ?_⟩
  · have hspares := State.wireDown_spares (s := s) (b := b)
    obtain ⟨x, hx⟩ := State.wireDown_channel (s := s) (b := b)
    rw [State.wireFallen_channel] at hx
    obtain ⟨t, hexec, hends, ht⟩ := exec_settles (exec_wireOffRaise hflag) (hspares.input.trans hinput)
    have hbridge : t.bridge b = (s.wireDown b).bridge b := by rw [ht]; rfl
    have hchannel : t.channel b = (s.wireDown b).channel b := by rw [ht]; rfl
    have hstore : t.store = (s.wireDown b).store := by rw [ht]
    have hwriting := s.store.sessionWriting_iff (b := b)
    refine ⟨t, hexec, ?_⟩
    rw [hchannel, hbridge, hstore]
    refine ⟨by rw [hx], by rw [hx], by rw [hx], by rw [hx], by rw [hx], by rw [hx], by rw [hx],
      State.wireDown_locks, fun h => ?_,
      ⟨fun h => ?_, fun h => ?_, fun h => ?_, fun h hidle => ?_, fun h hwrites => ?_⟩,
      ⟨fun h hidle => ?_, fun h hwrites => ?_⟩, by rw [hx], by rw [hx], fun d hd => ?_, ?_⟩
    · obtain ⟨-, -, hbinding, -⟩ := State.wireDown_bound h
      exact hbinding
    · obtain ⟨-, -, hlink⟩ := State.wireDown_free h
      rwa [hlink] at hends
    · obtain ⟨-, -, -, hlink⟩ := State.wireDown_bound h
      rwa [hlink] at hends
    · rwa [State.wireDown_kept h] at hends
    · have hw : s.store.sessionWriting b = false := by
        rw [← Bool.not_eq_true, hwriting]
        rintro ⟨f, hf, hrequester⟩
        exact hidle f hf hrequester
      obtain ⟨-, -, -, -, -, hlink⟩ := State.wireDown_session h hw
      rwa [hlink] at hends
    · obtain ⟨-, -, -, hlink⟩ := State.wireDown_writing h (hwriting.mpr hwrites)
      rwa [hlink] at hends
    · have hw : s.store.sessionWriting b = false := by rwa [← Bool.not_eq_true, hwriting]
      obtain ⟨hstate, hcause, hsession, hreserved, hrequests, -⟩ := State.wireDown_session h hw
      exact ⟨hstate, hcause, hsession, hreserved, hrequests⟩
    · obtain ⟨hstate, hkept, hsession, -⟩ := State.wireDown_writing h (hwriting.mpr hwrites)
      exact ⟨hstate, hkept, hsession⟩
    · rw [ht]
      exact hspares.others d hd
    · rw [ht]
      exact ⟨hspares.records, hspares.vehicles, hspares.feed, hspares.windows, hspares.shift, hspares.clock,
        hspares.pending⟩
  · have hrun : s.wireOffRun b = s := if_pos hflag
    exact congrArg (fun t : State => Host.Outcome.next t.settleLink) hrun
  · have honly := State.wireUp_onlyBridge (s := s) (b := b)
    obtain ⟨hwire, hmean, hfails⟩ := State.wireUp_channel (s := s) (b := b)
    obtain ⟨t, hexec, -, ht⟩ := exec_settles (exec_wireOffClear hflag) (honly.input.trans hinput)
    have hbridge (d : BridgeNo) : t.bridge d = (s.wireUp b).bridge d := by rw [ht]; rfl
    have hchannel (d : BridgeNo) : t.channel d = (s.wireUp b).channel d := by rw [ht]; rfl
    refine ⟨t, hexec, ?_⟩
    simp only [hbridge, hchannel]
    refine ⟨hwire, hmean, hfails, State.wireUp_binding, honly.others, ?_⟩
    rw [ht]
    exact ⟨honly.dt, honly.vehicles, honly.feed, honly.windows, honly.growers, honly.shift, honly.store, honly.clock,
      honly.pending⟩
  · have hrun : s.wireClearRun b = s := if_neg (by simp [hflag])
    exact congrArg (fun t : State => Host.Outcome.next t.settleLink) hrun

end Sys2Proof.Machine

/-! SUPPORT. The configuration of a channel: staged, applied or held; and the calibration made NOMINAL. -/
namespace Sys2Proof.Machine

open Sys2Proof

section

variable {s : State} {b : BridgeNo}

/-! ## Field lists (R203) -/

theorem idsDistinct_iff (es : List (Nat × Nat)) : idsDistinct es = true ↔ (es.map (·.1)).Nodup := by
  induction es with
  | nil => simp [idsDistinct]
  | cons e es ih =>
    simp only [idsDistinct, Bool.and_eq_true, Bool.not_eq_true', List.any_eq_false, beq_iff_eq, ih, List.map_cons,
      List.nodup_cons, List.mem_map, not_exists, not_and]

theorem entriesOk_iff {least most : Nat} {ok : Nat → Nat → Bool} {es : List (Nat × Nat)} :
    entriesOk least most ok es = true ↔
      least ≤ es.length ∧ es.length ≤ most ∧ (es.map (·.1)).Nodup ∧ ∀ e ∈ es, ok e.1 e.2 = true := by
  simp only [entriesOk, Bool.and_eq_true, decide_eq_true_eq, idsDistinct_iff, List.all_eq_true, and_assoc]

/-! ## CONFIG OPEN, CONFIG SET and CONFIG DISCARD (R127 to R129, R132) -/

theorem decideConfigOpen_badField {n : Nat} (h : n = 0 ∨ 4 < n) : decideConfigOpen n s = .refuse .badField := by
  simp only [decideConfigOpen, bridgeOf_bad n h]

theorem decideConfigOpen_taken (hp : (s.channel b).pending = none) (hc : (s.bridge b).state ≠ .calibrating) :
    let c := (s.channel b).active
    decideConfigOpen (bridgeCode b) s = .take (s.modChannel b fun x => { x with pending := some ⟨c.copy, false⟩ })
      (.configOpened c.copy c (s.channel b).cal) := by
  simp only [decideConfigOpen, bridgeOf_code]
  exact if_neg (by simp [hp, hc])

theorem decideConfigOpen_refused (h : (s.channel b).pending.isSome = true ∨ (s.bridge b).state = .calibrating) :
    decideConfigOpen (bridgeCode b) s = .refuse .wrongState := by
  simp only [decideConfigOpen, bridgeOf_code]
  exact if_pos h

/-- The defaults that an all-zero record takes in its copy (R128). -/
theorem ChannelConfig.copy_eq (c : ChannelConfig) :
    c.copy = if c = ⟨0, 0, 0, 0, 0, 0⟩ then ⟨0, 0, 0, 0, 20, 4⟩ else c := by
  unfold ChannelConfig.copy
  split
  · next h =>
    subst h
    rfl
  · next h => exact (if_neg h).symm

theorem decideConfigDiscard_badField {n : Nat} (h : n = 0 ∨ 4 < n) : decideConfigDiscard n s = .refuse .badField := by
  simp only [decideConfigDiscard, bridgeOf_bad n h]

theorem decideConfigDiscard_none (hp : (s.channel b).pending = none) :
    decideConfigDiscard (bridgeCode b) s = .refuse .wrongState := by
  simp only [decideConfigDiscard, bridgeOf_code, hp]

theorem decideConfigDiscard_taken {p : PendingConfig} (hp : (s.channel b).pending = some p) :
    let gone := s.modChannel b fun x => { x with pending := none }
    decideConfigDiscard (bridgeCode b) s = .take (if p.held then gone.giveBack 1 else gone) .none := by
  simp only [decideConfigDiscard, bridgeOf_code, hp]

section

variable {es : List (Nat × Nat)}

theorem decideConfigSet_badField {n : Nat} (h : n = 0 ∨ 4 < n) : decideConfigSet n es s = .refuse .badField := by
  simp only [decideConfigSet, bridgeOf_bad n h]

theorem decideConfigSet_wrongState (h : ∀ p, (s.channel b).pending = some p → p.held = true) :
    decideConfigSet (bridgeCode b) es s = .refuse .wrongState := by
  simp only [decideConfigSet, bridgeOf_code]
  split
  · rfl
  · next p hp => exact if_pos (h p hp)

/-- Of a pending record that is not held, the entries alone decide (R129). -/
theorem decideConfigSet_entries {p : PendingConfig} (hp : (s.channel b).pending = some p) (hheld : p.held = false) :
    let set := es.foldl ChannelConfig.setField p.config
    decideConfigSet (bridgeCode b) es s =
      if entriesOk 1 6 configFieldOk es then
        .take (s.modChannel b fun x => { x with pending := some ⟨set, false⟩ }) (.config set)
      else .refuse .badField := by
  simp only [decideConfigSet, bridgeOf_code, hp, hheld, if_neg Bool.false_ne_true]

end

end

/-- Settles O42, request by request. -/
theorem configurationsAreStaged : Obligations.ConfigurationsAreStaged := by
  refine ⟨fun s tag b h => ⟨fun n hn => ⟨?_, ?_⟩, fun hp hc => ?_, fun hbusy => ?_, fun hp => ?_, fun p hp => ?_⟩,
    fun s tag es h => ⟨fun n hn => ?_, fun b => ⟨fun hp => ?_, fun p hp hheld => ?_, fun p hp hheld =>
      ⟨fun hbad => ?_, fun hleast hmost hids hok => ?_⟩⟩⟩⟩
  · exact exec_refused h (.configOpen n) (decideConfigOpen_badField hn) rfl
  · exact exec_refused h (.configDiscard n) (decideConfigDiscard_badField hn) rfl
  · intro c copy
    have hcopy : c.copy = copy := c.copy_eq
    rw [← hcopy]
    exact exec_taken h (.configOpen (bridgeCode b)) (decideConfigOpen_taken hp hc) rfl
  · exact exec_refused h (.configOpen (bridgeCode b)) (decideConfigOpen_refused hbusy) rfl
  · exact exec_refused h (.configDiscard (bridgeCode b)) (decideConfigDiscard_none hp) rfl
  · exact exec_taken h (.configDiscard (bridgeCode b)) (decideConfigDiscard_taken hp) rfl
  · exact exec_refused h (.configSet n es) (decideConfigSet_badField hn) rfl
  · have hwrong := decideConfigSet_wrongState (s := s) (b := b) (es := es) (by simp [hp])
    exact exec_refused h (.configSet (bridgeCode b) es) hwrong rfl
  · have hwrong := decideConfigSet_wrongState (s := s) (b := b) (es := es) (by simp [hp, hheld])
    exact exec_refused h (.configSet (bridgeCode b) es) hwrong rfl
  · obtain ⟨e, he, hout⟩ := hbad
    have hno : entriesOk 1 6 configFieldOk es ≠ true := by
      rw [ne_eq, entriesOk_iff]
      rintro ⟨-, -, -, hall⟩
      exact nomatch hout.symm.trans (hall e he)
    exact exec_refused h (.configSet (bridgeCode b) es) ((decideConfigSet_entries hp hheld).trans (if_neg hno)) rfl
  · have hyes : entriesOk 1 6 configFieldOk es = true := entriesOk_iff.mpr ⟨hleast, hmost, hids, hok⟩
    exact exec_taken h (.configSet (bridgeCode b) es) ((decideConfigSet_entries hp hheld).trans (if_pos hyes)) rfl

section

variable {s : State} {b : BridgeNo}

/-! ## A channel's record completes (R131, R139, R176) -/

/-- A channel's record is owed no more once it is written; nothing else waits to be written. -/
theorem exec_writeComplete_channel {f : InFlight} {body : RecordBody} (hlone : s.loneWrite f)
    (hreq : f.request = ⟨.channel b, body⟩) :
    exec .writeComplete s = .next (State.settleLink
      (State.modChannel { s with store := s.store.completed f } b fun c => { c with owed := none })) := by
  have hu : (s.recorded f).requesterComplete f.record.sequence f.request =
      (s.recorded f).modChannel b fun c => { c with owed := none } := by
    simp only [State.requesterComplete, hreq]
  have hdone := State.completeWrite_lone hlone hu rfl
  exact congrArg (fun t : State => Host.Outcome.next t.settleLink) hdone

/-! ## CAL DEFAULT (R139) -/

theorem decideCalDefault_wrongState (hi : (s.bridge b).state ≠ .idle) (hl : (s.bridge b).state ≠ .locked) :
    decideCalDefault (bridgeCode b) s = .refuse .wrongState := by
  simp only [decideCalDefault, bridgeOf_code]
  exact if_pos ⟨hi, hl⟩

/-- The body of a CAL DEFAULT's CAL record (R139). -/
def Channel.defaultBody (c : Channel) (b : BridgeNo) : CalBody :=
  { channel := b, new := .nominal c.active.capacity c.cal.outcome, replaced := c.cal }

/-- The calibration made NOMINAL, its record owed and asked for, and the zero with it, before a lock condition arises
from it (R123, R139). -/
def State.calDefaulted (s : State) (b : BridgeNo) (body : CalBody) : State :=
  (((s.reserve 1).modChannel b fun c => { c with
    cal := body.new, owed := some (.cal body), period := none
    lastStable := if c.period.isSome then false else c.lastStable }).modBridge b
      fun x => { x with currentZero := 0 }).requestWrite (.channel b) (.cal body)

/-- The period in progress ends once, by the calibration or by the zero (R123). -/
theorem State.nominal_ended (s : State) (cal : Calibration) (owed : ChannelOwed) :
    (((s.modChannel b fun c => { c with cal := cal, owed := some owed }).endPeriod b).setZero b 0) =
      (s.modChannel b fun c => { c with
        cal := cal, owed := some owed, period := none
        lastStable := if c.period.isSome then false else c.lastStable }).modBridge b
          fun x => { x with currentZero := 0 } := by
  have hcommute (u : State) : u.setZero b 0 = (u.endPeriod b).modBridge b fun x => { x with currentZero := 0 } := rfl
  rw [hcommute, State.endPeriod, State.endPeriod, State.modChannel_modChannel, State.modChannel_modChannel]
  refine congrArg (State.modBridge · b _) (State.modChannel_congr ?_)
  rw [Channel.endPeriod_fields, Channel.endPeriod_fields]
  rfl

theorem decideCalDefault_taken (h : (s.bridge b).state = .idle ∨ (s.bridge b).state = .locked)
    (hbusy : (s.channel b).busy = false) (hreserve : s.reservationRefusal 1 = none) :
    decideCalDefault (bridgeCode b) s =
      .take ((s.calDefaulted b ((s.channel b).defaultBody b)).arise b .calInvalid) .none := by
  have hstate : ¬ ((s.bridge b).state ≠ .idle ∧ (s.bridge b).state ≠ .locked) := fun hno => h.elim hno.1 hno.2
  simp only [decideCalDefault, bridgeOf_code, if_neg hstate, hbusy, if_neg Bool.false_ne_true, hreserve]
  exact congrArg (fun u : State => Decision.take (State.arise (u.requestWrite (.channel b)
    (.cal ((s.channel b).defaultBody b))) b .calInvalid) .none) (State.nominal_ended _ _ _)

theorem State.calDefaulted_state (body : CalBody) :
    ((s.calDefaulted b body).bridge b).state = (s.bridge b).state := by
  simp [State.calDefaulted, State.bridge]

end

/-- Settles O46: the completion by `exec_writeComplete_channel`, the request by its decisions. -/
theorem calibrationsAreMadeNominal : Obligations.CalibrationsAreMadeNominal := by
  refine ⟨fun s f b x hlone hreq => exec_writeComplete_channel hlone hreq, fun s tag b h =>
    ⟨fun hstate howed hheld hstore hfree => ?_, fun hi hl =>
      exec_refused h (.calDefault (bridgeCode b)) (decideCalDefault_wrongState hi hl) rfl⟩⟩
  intro new body t
  have htaken := decideCalDefault_taken hstate (Channel.not_busy howed hheld)
    (State.reservationRefusal_none 1 hstore hfree)
  have htstate : (t.bridge b).state = (s.bridge b).state := State.calDefaulted_state body
  have hexec : exec (.calDefault tag (bridgeCode b)) s = .next (State.okReply (t.arise b .calInvalid) 0xD0 tag .none) :=
    exec_taken h (.calDefault (bridgeCode b)) htaken rfl
  refine ⟨fun hidle => ?_, fun hlocked => ?_⟩
  · rw [hexec, State.arise_free (.inl (htstate.trans hidle))]
  · rw [hexec, State.arise_kept (.inl (htstate.trans hlocked))]

end Sys2Proof.Machine

/-! SUPPORT. What a bridge keeps while its range flags and its presence are judged. -/
namespace Sys2Proof.Machine

open Sys2Proof

section

variable {s : State} {b : BridgeNo}

/-! ## A bridge under its range flags (R108, R110) -/

/-- From `x` to `y` only the lock cause and the persistence timers may change. -/
def Bridge.SameDeck (x y : Bridge) : Prop :=
  y = { x with lockCause := y.lockCause, overTimer := y.overTimer, underTimer := y.underTimer }

theorem Bridge.SameDeck.refl (x : Bridge) : x.SameDeck x := rfl

theorem Bridge.SameDeck.trans {x y z : Bridge} (h : Bridge.SameDeck x y) (k : Bridge.SameDeck y z) :
    Bridge.SameDeck x z := by
  unfold Bridge.SameDeck at h k ⊢
  rw [k, h]

theorem Bridge.SameDeck.fields {x y : Bridge} (h : Bridge.SameDeck x y) :
    y.state = x.state ∧ y.present = x.present ∧ y.currentZero = x.currentZero := by
  unfold Bridge.SameDeck at h
  rw [h]
  exact ⟨rfl, rfl, rfl⟩

theorem State.setTimer_sameDeck (k : RangeKind) (p : Persistence) :
    (s.bridge b).SameDeck ((s.modBridge b fun x => x.setTimer k p).bridge b) := by
  rw [State.modBridge_bridge]
  cases k <;> rfl

theorem State.ceased_sameDeck (cause : LockCause) : (s.bridge b).SameDeck ((s.ceased b cause).bridge b) := by
  unfold State.ceased
  split
  · split
    · rw [State.modBridge_bridge]
      rfl
    · exact .refl _
  · exact .refl _

/-- A condition that is not a bridge's lock cause ceases without a trace (R110). -/
theorem State.ceased_other {cause : LockCause} (h : (s.bridge b).lockCause ≠ some cause) : s.ceased b cause = s :=
  if_neg fun hc => h hc.2

theorem State.setRange_sameDeck (k : RangeKind) (v : Bool) : (s.bridge b).SameDeck ((s.setRange b k v).bridge b) := by
  unfold State.setRange
  dsimp only
  split
  · exact .refl _
  · split
    · split
      · exact .refl _
      · exact State.setTimer_sameDeck (s := s.modChannel b _) k _
    · have hstopped := State.setTimer_sameDeck (s := s.modChannel b fun c => c.setRangeFlag k v) (b := b) k .stopped
      split
      · exact hstopped.trans (State.ceased_sameDeck _)
      · exact hstopped

theorem State.setRange_lockCause {k : RangeKind} (v : Bool) (h : (s.bridge b).lockCause ≠ some (rangeCause k)) :
    ((s.setRange b k v).bridge b).lockCause = (s.bridge b).lockCause := by
  unfold State.setRange
  dsimp only
  split
  · rfl
  · split
    · split <;> simp
    · rw [State.ceased_other (by simpa using h), ite_self]
      simp

theorem State.emptyMean_sameDeck : (s.bridge b).SameDeck ((s.emptyMean b).bridge b) :=
  (State.setRange_sameDeck (s := (s.modChannel b _).endPeriod b) .over false).trans
    (State.setRange_sameDeck .under false)

theorem State.emptyMean_lockCause (hover : (s.bridge b).lockCause ≠ some .overrange)
    (hunder : (s.bridge b).lockCause ≠ some .underrange) :
    ((s.emptyMean b).bridge b).lockCause = (s.bridge b).lockCause := by
  have hkept := State.setRange_lockCause (s := State.endPeriod
    (s.modChannel b fun c => { c with mean := [], rounded := none }) b) (b := b) (k := .over) false hover
  rw [State.emptyMean, State.setRange_lockCause false (by rw [hkept]; exact hunder), hkept]
  rfl

/-! ## A bridge under the judgement of presence (R93, R94) -/

/-- Newly judged present, an IDLE bridge has a vehicle arrive; beside that only PRESENT and the clear hold change. -/
theorem State.judgePresence_effect :
    let y := (s.judgePresence b).bridge b
    y = { s.bridge b with
      present := y.present, clearHold := y.clearHold
      state := if y.present = true ∧ (s.bridge b).present = false ∧ (s.bridge b).state = .idle then .arrived
        else (s.bridge b).state } := by
  have hsame : ¬ ((s.bridge b).present = true ∧ (s.bridge b).present = false ∧ (s.bridge b).state = .idle) :=
    fun ⟨hp, hn, _⟩ => nomatch hp.symm.trans hn
  unfold State.judgePresence
  dsimp only
  split
  · split
    · rw [State.modBridge_bridge, if_neg hsame]
    · next hp => by_cases hidle : (s.bridge b).state = .idle <;> simp [State.endPeriod, hp, hidle]
  · split
    · rw [State.modBridge_bridge, if_neg hsame]
    · rfl

/-- A period in progress ends where PRESENT is set (R123). -/
theorem State.judgePresence_ends : (s.judgePresence b).channel b =
    if ((s.judgePresence b).bridge b).present = (s.bridge b).present then s.channel b else (s.channel b).endPeriod := by
  unfold State.judgePresence
  split
  · split
    · simp
    · next hp => simp [State.endPeriod, hp]
  · split <;> simp

end

end Sys2Proof.Machine

/-! SUPPORT. What the application of a configuration does. -/
namespace Sys2Proof.Machine

open Sys2Proof

section

variable {s t u : State} {b : BridgeNo}

/-! ## What keeps the accounts -/

/-- From `s` to `t` no other bridge and channel and no account changes: no table, no crushing, window, shift or time. -/
structure State.SparesTables (b : BridgeNo) (s t : State) : Prop extends State.SparesOthers b s t where
  dt : t.dt = s.dt
  growers : t.growers = s.growers

theorem State.SparesTables.trans (h : State.SparesTables b s t) (k : State.SparesTables b t u) :
    State.SparesTables b s u :=
  ⟨h.toSparesOthers.trans k.toSparesOthers, k.dt.trans h.dt, k.growers.trans h.growers⟩

theorem State.OnlyBridge.sparesTables (h : State.OnlyBridge b s t) : State.SparesTables b s t :=
  ⟨h.toSparesOthers, h.dt, h.growers⟩

theorem State.notify_sparesTables (body : NoticeBody) : s.SparesTables b (s.notify body) :=
  ⟨s.notify_sparesOthers b body, s.notify_dt body, s.notify_growers body⟩

theorem State.enterLocked_sparesTables (cause : LockCause) (x : Option Binding) :
    s.SparesTables b (s.enterLocked b cause x) :=
  have ⟨_, hdt, hgrowers⟩ := s.enterLocked_accounts b cause x
  ⟨s.enterLocked_sparesOthers b cause x, hdt, hgrowers⟩

theorem State.requestWrite_sparesTables (r : Requester) (body : RecordBody) :
    s.SparesTables b (s.requestWrite r body) :=
  ⟨⟨by simp, by simp, by simp, by simp, by simp, by simp, by simp, by simp,
    fun _ _ => ⟨by simp [State.bridge], by simp [State.channel]⟩⟩, by simp, by simp⟩

/-! ## CONFIG APPLY (R130) -/

theorem decideConfigApply_taken {p : PendingConfig} (hp : (s.channel b).pending = some p) (hheld : p.held = false)
    (hcal : (s.bridge b).state ≠ .calibrating) (howed : (s.channel b).owed = none)
    (hcomplete : p.config.complete = true) (hreserve : s.reservationRefusal 1 = none) :
    decideConfigApply (bridgeCode b) s =
      if (s.bridge b).state = .idle ∨ (s.bridge b).state = .locked then
        .take ((s.reserve 1).applyConfig b false) (.applied false)
      else
        .take ((s.reserve 1).modChannel b fun x => { x with pending := some { p with held := true } })
          (.applied true) := by
  have hbridge : (s.reserve 1).bridge b = s.bridge b := by simp [State.bridge]
  have htests : ¬ (p.held = true ∨ (s.bridge b).state = .calibrating ∨ (s.channel b).owed.isSome = true) := by
    simp [hheld, hcal, howed]
  simp only [decideConfigApply, bridgeOf_code, hp, if_neg htests, hcomplete, hreserve, hbridge, reduceCtorEq, if_false]

/-! ## The pending record becomes the active one (R131) -/

/-- A new configuration makes the calibration NOMINAL (R131). -/
def ChannelConfig.renews (old new : ChannelConfig) : Bool :=
  decide (old.capacity ≠ new.capacity ∨ old.division ≠ new.division)

/-- A new configuration, or the first, empties the mean (R131). -/
abbrev ChannelConfig.Refills (old new : ChannelConfig) : Prop :=
  old.filter ≠ new.filter ∨ old = ChannelConfig.allZero

/-- The calibration that a new configuration leaves (R131). -/
def Channel.calUnder (c : Channel) (new : ChannelConfig) : Calibration :=
  if c.active.renews new then Calibration.nominal new.capacity c.cal.outcome else c.cal

/-- The channel as a new configuration finds it, its calibration and zero renewed (R131). -/
def State.configTaken (s : State) (b : BridgeNo) (new : ChannelConfig) : State :=
  let taken := s.modChannel b fun c => { c with active := new, pending := none, cal := (s.channel b).calUnder new }
  if (s.channel b).active.renews new then taken.setZero b 0 else taken

theorem State.configTaken_onlyBridge (new : ChannelConfig) : s.OnlyBridge b (s.configTaken b new) := by
  have htaken := s.modChannel_onlyBridge b fun c =>
    { c with active := new, pending := none, cal := (s.channel b).calUnder new }
  unfold State.configTaken
  dsimp only
  split
  · exact htaken.trans (State.setZero_onlyBridge _ b 0)
  · exact htaken

theorem State.configTaken_bridge (new : ChannelConfig) : (s.configTaken b new).bridge b =
    { s.bridge b with
      currentZero := if (s.channel b).active.renews new then 0 else (s.bridge b).currentZero } := by
  unfold State.configTaken
  dsimp only
  split
  · exact State.setZero_bridge 0
  · rfl

theorem State.configTaken_channel (new : ChannelConfig) : ((s.configTaken b new).channel b).endPeriod =
    { s.channel b with
      active := new, pending := none, cal := (s.channel b).calUnder new, period := none
      lastStable := if (s.channel b).period.isSome then false else (s.channel b).lastStable } := by
  unfold State.configTaken
  dsimp only
  split
  · rw [State.setZero, State.endPeriod, State.modChannel_channel, State.modBridge_channel, State.modChannel_channel,
      Channel.endPeriod_fields, Channel.endPeriod_fields]
    rfl
  · rw [State.modChannel_channel, Channel.endPeriod_fields]

/-- The channel under its new configuration, no period in progress (R123, R131). -/
def State.configured (s : State) (b : BridgeNo) (new : ChannelConfig) : State :=
  let u := s.configTaken b new
  State.endPeriod (if (s.channel b).active.Refills new then u.emptyMean b else u) b

theorem State.configured_onlyBridge (new : ChannelConfig) : s.OnlyBridge b (s.configured b new) := by
  have htaken := s.configTaken_onlyBridge (b := b) new
  refine State.OnlyBridge.trans ?_ (State.endPeriod_onlyBridge _ b)
  split
  · exact htaken.trans State.emptyMean_onlyReading.toOnlyBridge
  · exact htaken

theorem State.configured_sameDeck (new : ChannelConfig) :
    ((s.configTaken b new).bridge b).SameDeck ((s.configured b new).bridge b) := by
  unfold State.configured
  dsimp only
  rw [State.endPeriod, State.modChannel_bridge]
  split
  · exact State.emptyMean_sameDeck
  · exact .refl _

/-- Emptied or not, the mean leaves a cause that is no range condition as it was. -/
theorem State.configured_lockCause {new : ChannelConfig} (h : (s.bridge b).lockCause = some .unconfigured) :
    ((s.configured b new).bridge b).lockCause = some .unconfigured := by
  have htaken : ((s.configTaken b new).bridge b).lockCause = some .unconfigured := by
    rw [State.configTaken_bridge]
    exact h
  unfold State.configured
  dsimp only
  rw [State.endPeriod, State.modChannel_bridge]
  split
  · rw [State.emptyMean_lockCause (by rw [htaken]; decide) (by rw [htaken]; decide), htaken]
  · exact htaken

/-- A channel's reading gone with its mean (R120, R125). -/
def Channel.emptied (c : Channel) : Channel :=
  { c with mean := [], rounded := none, overrange := false, underrange := false }

theorem State.configured_channel (new : ChannelConfig) : (s.configured b new).channel b =
    let c : Channel := { s.channel b with
      active := new, pending := none, cal := (s.channel b).calUnder new, period := none
      lastStable := if (s.channel b).period.isSome then false else (s.channel b).lastStable }
    if (s.channel b).active.Refills new then c.emptied else c := by
  have htaken := s.configTaken_channel (b := b) new
  unfold State.configured
  dsimp only
  rw [State.endPeriod, State.modChannel_channel, ← htaken]
  split
  · rw [State.emptyMean_channel, Channel.endPeriod_fields, Channel.endPeriod_fields]
    rfl
  · rfl

/-! ## The application by its steps (R131) -/

/-- The CONFIG record of an application (R131). -/
def Channel.configBody (c : Channel) (b : BridgeNo) (new : ChannelConfig) : ConfigBody :=
  { channel := b, madeNominal := c.active.renews new, new := new, replaced := c.active }

/-- The CONFIG record owed and asked for, and CONFIG APPLIED made (R131). -/
def State.configTold (s : State) (b : BridgeNo) (new : ChannelConfig) (held : Bool) : State :=
  let body := (s.channel b).configBody b new
  let owing := (s.configured b new).modChannel b fun c => { c with owed := some (.config body) }
  (owing.requestWrite (.channel b) (.config body)).notify (.configApplied b new held body.madeNominal)

/-- A channel configured for the first time is UNCONFIGURED no more (R110, R131). -/
def State.configSettled (s : State) (b : BridgeNo) (new : ChannelConfig) (held : Bool) : State :=
  let told := s.configTold b new held
  if (s.channel b).active = ChannelConfig.allZero then told.ceased b .unconfigured else told

/-- An IDLE bridge with an invalid calibration locks (R131). -/
def State.lockUncalibrated (s : State) (b : BridgeNo) : State :=
  if (s.bridge b).state = .idle ∧ (s.channel b).cal.valid = false then s.enterLocked b .calInvalid none else s

theorem State.applyConfig_eq {p : PendingConfig} (hp : (s.channel b).pending = some p) (held : Bool) :
    s.applyConfig b held = ((s.configSettled b p.config held).lockUncalibrated b).judgePresence b := by
  unfold State.applyConfig
  split
  · next hnone => exact nomatch hp.symm.trans hnone
  · next p' hp' =>
    obtain rfl := Option.some.inj (hp.symm.trans hp')
    rfl

theorem State.configTold_sparesTables (new : ChannelConfig) (held : Bool) :
    s.SparesTables b (s.configTold b new held) :=
  (((s.configured_onlyBridge new).trans (State.modChannel_onlyBridge _ b _)).sparesTables.trans
    (State.requestWrite_sparesTables _ _)).trans (State.notify_sparesTables _)

theorem State.configTold_bridge (new : ChannelConfig) (held : Bool) :
    (s.configTold b new held).bridge b = (s.configured b new).bridge b := by
  simp [State.configTold, State.bridge]

theorem State.configTold_channel (new : ChannelConfig) (held : Bool) : (s.configTold b new held).channel b =
    { (s.configured b new).channel b with owed := some (.config ((s.channel b).configBody b new)) } := by
  rw [State.configTold, State.channel, State.notify_channels, State.requestWrite_channels]
  exact State.modChannel_channel b _

theorem State.configTold_link (new : ChannelConfig) (held : Bool) : (s.configTold b new held).link =
    (s.notify (.configApplied b new held ((s.channel b).active.renews new))).link := by
  refine State.notify_link_congr ?_ _
  rw [State.requestWrite_link]
  exact (s.configured_onlyBridge new).link

theorem State.configSettled_spares (new : ChannelConfig) (held : Bool) :
    s.SparesTables b (s.configSettled b new held) ∧
      (s.configSettled b new held).channel b = (s.configTold b new held).channel b ∧
      (s.configSettled b new held).link = (s.configTold b new held).link ∧
      ((s.configTold b new held).bridge b).SameDeck ((s.configSettled b new held).bridge b) := by
  have htold := s.configTold_sparesTables (b := b) new held
  unfold State.configSettled
  dsimp only
  split
  · have honly := (State.ceased_onlyReading (s := s.configTold b new held) (b := b) .unconfigured).toOnlyBridge
    exact ⟨htold.trans honly.sparesTables, State.ceased_channel _, honly.link, State.ceased_sameDeck _⟩
  · exact ⟨htold, rfl, rfl, .refl _⟩

/-- Throughout its application a configuration leaves the bridge's state and PRESENT, and its zero but for a NOMINAL
calibration's (R131). -/
theorem State.configSettled_bridge (new : ChannelConfig) (held : Bool) :
    ((s.configSettled b new held).bridge b).state = (s.bridge b).state ∧
      ((s.configSettled b new held).bridge b).present = (s.bridge b).present ∧
      ((s.configSettled b new held).bridge b).currentZero =
        if (s.channel b).active.renews new then 0 else (s.bridge b).currentZero := by
  obtain ⟨-, -, -, hdeck⟩ := s.configSettled_spares (b := b) new held
  rw [State.configTold_bridge] at hdeck
  obtain ⟨hstate, hpresent, hzero⟩ := ((State.configured_sameDeck new).trans hdeck).fields
  rw [State.configTaken_bridge] at hstate hpresent hzero
  exact ⟨hstate, hpresent, hzero⟩

/-- A bridge LOCKED as UNCONFIGURED is locked for its invalid calibration next (R110, R131). -/
theorem State.configSettled_uncalibrated {new : ChannelConfig} (hnew : new ≠ ⟨0, 0, 0, 0, 0, 0⟩)
    (hlocked : (s.bridge b).state = .locked) (hcause : (s.bridge b).lockCause = some .unconfigured)
    (hold : (s.channel b).active = ⟨0, 0, 0, 0, 0, 0⟩) (held : Bool)
    (hcal : ((s.configTold b new held).channel b).cal.valid = false) :
    ((s.configSettled b new held).bridge b).lockCause = some .calInvalid := by
  let told := s.configTold b new held
  have hstate : (told.bridge b).state = .locked := by
    have hkept := (State.configured_sameDeck (s := s) (b := b) new).fields.1
    rw [State.configTaken_bridge] at hkept
    rw [State.configTold_bridge, hkept]
    exact hlocked
  have hcause' : (told.bridge b).lockCause = some .unconfigured := by
    rw [State.configTold_bridge, State.configured_lockCause hcause]
  have hactive : (told.channel b).active = new := by
    rw [State.configTold_channel, State.configured_channel]
    dsimp only
    split <;> rfl
  have hnext : told.firstStanding b = some .calInvalid := by
    rw [State.firstStanding_eq, if_neg (by rw [hactive]; exact hnew), if_pos hcal]
  have hsettled : s.configSettled b new held = told.ceased b .unconfigured := if_pos hold
  rw [hsettled, State.ceased_locked hstate hcause', hnext]
  exact congrArg Bridge.lockCause (State.modBridge_bridge b _)

/-! ## The bridge locks, or not (R131) -/

theorem State.lockUncalibrated_spares : s.SparesTables b (s.lockUncalibrated b) ∧
    (s.lockUncalibrated b).channel b = s.channel b ∧
    ((s.lockUncalibrated b).bridge b).present = (s.bridge b).present ∧
    ((s.lockUncalibrated b).bridge b).currentZero = (s.bridge b).currentZero := by
  unfold State.lockUncalibrated
  split
  · refine ⟨State.enterLocked_sparesTables _ _, congrArg (·.get b) (s.enterLocked_accounts b _ _).1, ?_, ?_⟩
    · rw [State.enterLocked_bridge]
      rfl
    · rw [State.enterLocked_bridge]
      rfl
  · exact ⟨(State.OnlyBridge.refl s b).sparesTables, rfl, rfl, rfl⟩

theorem State.lockUncalibrated_locks (hidle : (s.bridge b).state = .idle) (hcal : (s.channel b).cal.valid = false) :
    s.lockUncalibrated b = s.enterLocked b .calInvalid none := if_pos ⟨hidle, hcal⟩

theorem State.lockUncalibrated_stays (h : (s.bridge b).state ≠ .idle ∨ (s.channel b).cal.valid = true) :
    s.lockUncalibrated b = s :=
  if_neg fun ⟨hidle, hcal⟩ => h.elim (absurd hidle) fun hvalid => nomatch hvalid.symm.trans hcal

/-! ## What an application leaves (R131) -/

theorem Channel.endPeriod_of_none {c : Channel} (h : c.period = none) : c.endPeriod = c := by
  rw [Channel.endPeriod_eq, if_neg (by simp [h])]

theorem State.configTold_fields (new : ChannelConfig) (held : Bool) :
    let c := (s.configTold b new held).channel b
    c.active = new ∧ c.pending = none ∧ c.period = none ∧ c.cal = (s.channel b).calUnder new ∧
      c.owed = some (.config ((s.channel b).configBody b new)) ∧
      ((s.channel b).active.Refills new →
        c.mean = [] ∧ c.rounded = none ∧ c.overrange = false ∧ c.underrange = false) := by
  rw [State.configTold_channel, State.configured_channel]
  by_cases h : (s.channel b).active.Refills new
  · rw [if_pos h]
    exact ⟨rfl, rfl, rfl, rfl, rfl, fun _ => ⟨rfl, rfl, rfl, rfl⟩⟩
  · rw [if_neg h]
    exact ⟨rfl, rfl, rfl, rfl, rfl, fun hrefills => absurd hrefills h⟩

section

variable {p : PendingConfig} (hp : (s.channel b).pending = some p) (held : Bool)

include hp

theorem State.applyConfig_channel :
    (s.applyConfig b held).channel b = (s.configTold b p.config held).channel b := by
  let u := s.configSettled b p.config held
  have hu : u.channel b = (s.configTold b p.config held).channel b := (s.configSettled_spares p.config held).2.1
  have hw : (u.lockUncalibrated b).channel b = u.channel b := State.lockUncalibrated_spares.2.1
  have hperiod : (u.channel b).period = none := by
    rw [hu]
    exact (s.configTold_fields p.config held).2.2.1
  rw [State.applyConfig_eq hp held, ← hu]
  rcases State.judgePresence_channel (s := u.lockUncalibrated b) (b := b) with h | h
  · exact h.trans hw
  · exact h.trans ((congrArg Channel.endPeriod hw).trans (Channel.endPeriod_of_none hperiod))

theorem State.applyConfig_sparesTables : s.SparesTables b (s.applyConfig b held) := by
  obtain ⟨hsettled, -⟩ := s.configSettled_spares (b := b) p.config held
  obtain ⟨hlocked, -⟩ := State.lockUncalibrated_spares (s := s.configSettled b p.config held) (b := b)
  rw [State.applyConfig_eq hp held]
  exact (hsettled.trans hlocked).trans State.judgePresence_onlyBridge.sparesTables

theorem State.applyConfig_currentZero : ((s.applyConfig b held).bridge b).currentZero =
    if (s.channel b).active.renews p.config then 0 else (s.bridge b).currentZero := by
  let u := s.configSettled b p.config held
  have hjudged := State.judgePresence_effect (s := u.lockUncalibrated b) (b := b)
  have hlocked := (State.lockUncalibrated_spares (s := u) (b := b)).2.2.2
  have hsettled := (s.configSettled_bridge (b := b) p.config held).2.2
  rw [State.applyConfig_eq hp held, hjudged, ← hsettled]
  exact hlocked

/-- An IDLE bridge whose calibration is then invalid locks CAL_INVALID, with BRIDGE LOCKED (R131). -/
theorem State.applyConfig_locks (hidle : (s.bridge b).state = .idle)
    (hcal : ((s.applyConfig b held).channel b).cal.valid = false) :
    let t := s.applyConfig b held
    let told := s.notify (.configApplied b p.config held ((s.channel b).active.renews p.config))
    (t.bridge b).state = .locked ∧ (t.bridge b).lockCause = some .calInvalid ∧
      t.link = ((told.notify (.bridgeLocked b .calInvalid none)).raise .bridgeLocked).link := by
  intro t told
  let u := s.configSettled b p.config held
  obtain ⟨-, huc, hulink, -⟩ := s.configSettled_spares (b := b) p.config held
  have hustate : (u.bridge b).state = .idle := (s.configSettled_bridge p.config held).1.trans hidle
  have hucal : (u.channel b).cal.valid = false := by rwa [State.applyConfig_channel hp held, ← huc] at hcal
  have ht : t = (u.enterLocked b .calInvalid none).judgePresence b := by
    rw [← State.lockUncalibrated_locks hustate hucal]
    exact State.applyConfig_eq hp held
  obtain ⟨-, hcause, hstate⟩ := State.judgePresence_bridge (s := u.enterLocked b .calInvalid none) (b := b)
  rw [State.enterLocked_bridge] at hcause hstate
  rw [ht]
  refine ⟨hstate nofun, hcause, State.judgePresence_onlyBridge.link.trans ((u.enterLocked_link b _ _).trans ?_)⟩
  exact State.raise_link_congr (State.notify_link_congr (hulink.trans (State.configTold_link _ _)) _) _

/-- A bridge that the application does not lock: PRESENT is judged anew (R93, R131; log 27). -/
theorem State.applyConfig_stays
    (h : (s.bridge b).state ≠ .idle ∨ ((s.applyConfig b held).channel b).cal.valid = true) :
    s.applyConfig b held = (s.configSettled b p.config held).judgePresence b ∧
      (s.applyConfig b held).link =
        (s.notify (.configApplied b p.config held ((s.channel b).active.renews p.config))).link := by
  let u := s.configSettled b p.config held
  obtain ⟨-, huc, hulink, -⟩ := s.configSettled_spares (b := b) p.config held
  have hu : (u.bridge b).state ≠ .idle ∨ (u.channel b).cal.valid = true := by
    rwa [(s.configSettled_bridge p.config held).1, huc, ← State.applyConfig_channel hp held]
  have ht : s.applyConfig b held = u.judgePresence b := by
    rw [State.applyConfig_eq hp held, State.lockUncalibrated_stays hu]
  refine ⟨ht, ?_⟩
  rw [ht]
  exact State.judgePresence_onlyBridge.link.trans (hulink.trans (State.configTold_link _ _))

/-- An IDLE bridge with a valid calibration stays so, unless a vehicle is newly judged present (R131; log 27). -/
theorem State.applyConfig_idle (hidle : (s.bridge b).state = .idle)
    (hcal : ((s.applyConfig b held).channel b).cal.valid = true) :
    let t := s.applyConfig b held
    (t.bridge b).state =
      if (t.bridge b).present = true ∧ (s.bridge b).present = false then .arrived else .idle := by
  intro t
  obtain ⟨hstate, hpresent, -⟩ := s.configSettled_bridge (b := b) p.config held
  have ht : t = (s.configSettled b p.config held).judgePresence b := (State.applyConfig_stays hp held (.inr hcal)).1
  have hjudged := congrArg Bridge.state (State.judgePresence_effect (s := s.configSettled b p.config held) (b := b))
  rw [← ht] at hjudged
  simpa only [hstate, hpresent, hidle, and_true] using hjudged

/-- A bridge LOCKED as UNCONFIGURED stays LOCKED, by its next standing cause (R110, R131). -/
theorem State.applyConfig_relocks (hnew : p.config ≠ ⟨0, 0, 0, 0, 0, 0⟩) (hlocked : (s.bridge b).state = .locked)
    (hcause : (s.bridge b).lockCause = some .unconfigured) (hold : (s.channel b).active = ⟨0, 0, 0, 0, 0, 0⟩)
    (hcal : ((s.applyConfig b held).channel b).cal.valid = false) :
    let t := s.applyConfig b held
    (t.bridge b).state = .locked ∧ (t.bridge b).lockCause = some .calInvalid := by
  intro t
  let u := s.configSettled b p.config held
  have hustate : (u.bridge b).state = .locked := (s.configSettled_bridge p.config held).1.trans hlocked
  have ht : t = u.judgePresence b := (State.applyConfig_stays hp held (.inl (by simp [hlocked]))).1
  rw [State.applyConfig_channel hp held] at hcal
  obtain ⟨-, hkept, hstate⟩ := State.judgePresence_bridge (s := u) (b := b)
  rw [ht]
  exact ⟨(hstate (by simp [hustate])).trans hustate,
    hkept.trans (State.configSettled_uncalibrated hnew hlocked hcause hold held hcal)⟩

end

end

/-- Settles O43: the completion by `exec_writeComplete_channel`, the request by `decideConfigApply_taken`, the
application by the facts about `State.applyConfig`. -/
theorem configurationsAreApplied : Obligations.ConfigurationsAreApplied := by
  refine ⟨fun s f b x hlone hreq => exec_writeComplete_channel hlone hreq, ?_, ?_⟩
  · intro s tag b p h hp hheld hcal howed hcomplete hstore hfree
    have hdecide := decideConfigApply_taken hp hheld hcal howed hcomplete
      (State.reservationRefusal_none 1 hstore hfree)
    refine ⟨fun hfreeBridge => ?_, fun hi hl => ?_⟩
    · exact exec_taken h (.configApply (bridgeCode b)) (hdecide.trans (if_pos hfreeBridge)) rfl
    · exact exec_taken h (.configApply (bridgeCode b)) (hdecide.trans (if_neg fun hno => hno.elim hi hl)) rfl
  · intro s b p held hp hnew old nominal t
    have hchannel : t.channel b = (s.configTold b p.config held).channel b := State.applyConfig_channel hp held
    obtain ⟨hactive, hpending, hperiod, hcal, howed, hrefills⟩ := s.configTold_fields (b := b) p.config held
    have hspares : s.SparesTables b t := State.applyConfig_sparesTables hp held
    rw [← hchannel] at hactive hpending hperiod hcal howed hrefills
    refine ⟨hactive, hpending, hperiod, hcal, howed, State.applyConfig_currentZero hp held, hrefills,
      fun hidle hvalid => ?_, State.applyConfig_idle hp held,
      fun hlocked hcause hold hvalid => State.applyConfig_relocks hp held hnew hlocked hcause hold hvalid,
      ⟨fun hidle hvalid => ?_, fun hstays => (State.applyConfig_stays hp held hstays).2⟩, hspares.others,
      hspares.dt, hspares.feed, hspares.windows, hspares.growers, hspares.vehicles, hspares.shift, hspares.clock,
      hspares.pending⟩
    · obtain ⟨hstate, hcause, -⟩ := State.applyConfig_locks hp held hidle hvalid
      exact ⟨hstate, hcause⟩
    · obtain ⟨-, -, hlink⟩ := State.applyConfig_locks hp held hidle hvalid
      exact hlink

end Sys2Proof.Machine

/-! SUPPORT. A conversion: its check, its place in the mean, and the reading that it forms. -/
namespace Sys2Proof.Machine

open Sys2Proof

section

variable {s t u : State} {b : BridgeNo} {count : Int} {agree : Bool}

/-! ## The sense check and its runs (R126) -/

theorem senseFails_iff : senseFails count agree = true ↔ agree = false ∨ count = -8388608 ∨ count = 8388607 := by
  simp only [senseFails, Bool.or_eq_true, Bool.not_eq_true', decide_eq_true_eq, or_assoc]
  rfl

/-- A channel after a failing check: it counts for the runs and for the period in progress (R123, R126). -/
def Channel.checkFailed (c : Channel) : Channel :=
  { c with
      failRun := c.failRun + 1, passRun := 0
      period := c.period.map fun p => { p with conversions := p.conversions + 1 } }

/-- A channel after a passing check (R126). -/
def Channel.checkPassed (c : Channel) : Channel := { c with passRun := c.passRun + 1, failRun := 0 }

section

variable (h : agree = false ∨ count = -8388608 ∨ count = 8388607)

include h

theorem State.convert_failing : s.convert b count agree =
    if 5 ≤ (s.channel b).failRun + 1 ∧ (s.channel b).wireOff = false then
      (s.modChannel b Channel.checkFailed).raiseWireOff b
    else s.modChannel b Channel.checkFailed := by
  refine (if_pos (senseFails_iff.mpr h)).trans ?_
  dsimp only
  rw [State.modChannel_channel]
  rfl

theorem State.convert_counts (hrun : (s.channel b).failRun + 1 < 5 ∨ (s.channel b).wireOff = true) :
    s.convert b count agree = s.modChannel b Channel.checkFailed := by
  refine (State.convert_failing h).trans (if_neg fun ⟨hlong, hclear⟩ => ?_)
  rcases hrun with hshort | hflag
  · omega
  · exact nomatch hflag.symm.trans hclear

theorem State.convert_raises (hrun : 5 ≤ (s.channel b).failRun + 1) (hflag : (s.channel b).wireOff = false) :
    s.convert b count agree = (s.modChannel b Channel.checkFailed).raiseWireOff b :=
  (State.convert_failing h).trans (if_pos ⟨hrun, hflag⟩)

end

section

variable (h : ¬ (agree = false ∨ count = -8388608 ∨ count = 8388607))

include h

theorem State.convert_passing : s.convert b count agree =
    if (s.channel b).wireOff then
      if 100 ≤ (s.channel b).passRun + 1 then (s.modChannel b Channel.checkPassed).clearWireOff b
      else s.modChannel b Channel.checkPassed
    else (s.modChannel b Channel.checkPassed).joinMean b count := by
  refine (if_neg fun hfails => h (senseFails_iff.mp hfails)).trans ?_
  dsimp only
  rw [State.modChannel_channel]
  rfl

theorem State.convert_clears (hflag : (s.channel b).wireOff = true) (hrun : 100 ≤ (s.channel b).passRun + 1) :
    s.convert b count agree = (s.modChannel b Channel.checkPassed).clearWireOff b :=
  (State.convert_passing h).trans ((if_pos hflag).trans (if_pos hrun))

theorem State.convert_waits (hflag : (s.channel b).wireOff = true) (hrun : (s.channel b).passRun + 1 < 100) :
    s.convert b count agree = s.modChannel b Channel.checkPassed :=
  (State.convert_passing h).trans ((if_pos hflag).trans (if_neg (Nat.not_le.mpr hrun)))

theorem State.convert_joins (hflag : (s.channel b).wireOff = false) :
    s.convert b count agree = (s.modChannel b Channel.checkPassed).joinMean b count :=
  (State.convert_passing h).trans (if_neg (by simp [hflag]))

end

theorem State.modChannel_self {f : Channel → Channel} (h : f (s.channel b) = s.channel b) : s.modChannel b f = s := by
  have hset : s.channels.set b (s.channels.get b) = s.channels := by cases b <;> rfl
  have hf : f (s.channels.get b) = s.channels.get b := h
  rw [State.modChannel, hf, hset]

/-- Where the failing run stands at its length already, WIRE_OFF_RAISE raises the flag and no more (R126). -/
theorem State.wireOffRun_reached (hflag : (s.channel b).wireOff = false)
    (hrun : Config.wireOffRun ≤ (s.channel b).failRun) (hpass : (s.channel b).passRun = 0) : s.wireOffRun b = s.raiseWireOff b := by
  rw [State.wireOffRun, if_neg (by simp [hflag]), State.modChannel_self]
  rw [Nat.max_eq_left hrun, ← hpass]

/-- Where the passing run stands at its length already, WIRE_OFF_CLEAR clears the flag and no more (R126). -/
theorem State.wireClearRun_reached (hflag : (s.channel b).wireOff = true)
    (hrun : Config.wireClearRun ≤ (s.channel b).passRun) (hfail : (s.channel b).failRun = 0) : s.wireClearRun b = s.clearWireOff b := by
  rw [State.wireClearRun, if_pos hflag, State.modChannel_self]
  rw [Nat.max_eq_left hrun, ← hfail]

/-! ## The running mean (R121) -/

theorem roundAway_one (a : Int) : roundAway a 1 = a := by
  have hquotient : (2 * a.natAbs + (1 : Int).natAbs) / (2 * (1 : Int).natAbs) = a.natAbs := by
    rw [Int.natAbs_one]
    omega
  rw [roundAway, hquotient]
  split <;> omega

/-- The counts that stay in the mean beside a new one (R121). -/
def Channel.olderCounts (c : Channel) : List Int := c.mean.take (2 ^ c.active.filter - 1)

theorem Channel.joined (c : Channel) (count : Int) :
    (count :: c.mean).take c.active.meanLength = count :: c.olderCounts := by
  rw [Channel.olderCounts, ChannelConfig.meanLength, List.take_cons (Nat.two_pow_pos _)]

theorem State.joinMean_filling (h : (s.channel b).olderCounts.length + 1 < 2 ^ (s.channel b).active.filter) :
    s.joinMean b count = s.modChannel b fun c => { c with mean := count :: c.olderCounts } := by
  unfold State.joinMean
  dsimp only
  rw [Channel.joined, if_neg (by exact Nat.ne_of_lt h)]
  rfl

section

variable (h : (s.channel b).olderCounts.length + 1 = 2 ^ (s.channel b).active.filter)

include h

/-- A mean that fills forms a filtered count, and on a configured channel a reading (R120, R121). -/
theorem State.joinMean_full :
    let filtered := roundAway (count + (s.channel b).olderCounts.sum) (2 ^ (s.channel b).active.filter : Nat)
    let u := s.modChannel b fun c => { c with mean := count :: c.olderCounts, filtered := filtered }
    s.joinMean b count =
      if (s.channel b).active = ChannelConfig.allZero then u else u.takeReading b filtered := by
  unfold State.joinMean
  dsimp only
  rw [Channel.joined, if_pos (by exact h), List.sum_cons, State.modChannel_modChannel]
  rfl

end

/-! ## What a stable reading leaves (R101, R106, R124, R135) -/

/-- From `s` to `t` no other bridge and channel changes, and no account: the deliveries' records and the growers', the
Feed Queue, the windows, the shift and the times stand as they were. -/
structure State.SparesAccounts (b : BridgeNo) (s t : State) : Prop where
  records : t.dt.records = s.dt.records
  feed : t.feed = s.feed
  windows : t.windows = s.windows
  growers : t.growers = s.growers
  shift : t.shift = s.shift
  clock : t.clock = s.clock
  pending : t.pending = s.pending
  input : t.link.input = s.link.input
  others : ∀ d, d ≠ b → t.bridge d = s.bridge d ∧ t.channel d = s.channel d

theorem State.SparesAccounts.trans (h : State.SparesAccounts b s t) (k : State.SparesAccounts b t u) :
    State.SparesAccounts b s u :=
  ⟨k.records.trans h.records, k.feed.trans h.feed, k.windows.trans h.windows, k.growers.trans h.growers,
    k.shift.trans h.shift, k.clock.trans h.clock, k.pending.trans h.pending, k.input.trans h.input,
    fun d hd => ⟨(k.others d hd).1.trans (h.others d hd).1, (k.others d hd).2.trans (h.others d hd).2⟩⟩

theorem State.SparesTables.sparesAccounts (h : State.SparesTables b s t) : State.SparesAccounts b s t :=
  ⟨h.records, h.feed, h.windows, h.growers, h.shift, h.clock, h.pending, h.input, h.others⟩

theorem State.OnlyBridge.sparesAccounts (h : State.OnlyBridge b s t) : State.SparesAccounts b s t :=
  h.sparesTables.sparesAccounts

/-- What the bridge may do with a stable reading: its accounts spared, PRESENT stands, and of its channel only a session
may change. -/
structure State.TakesStable (b : BridgeNo) (s t : State) : Prop extends State.SparesAccounts b s t where
  present : (t.bridge b).present = (s.bridge b).present
  channel : ∃ x, t.channel b = { s.channel b with session := x }

theorem State.TakesStable.refl (s : State) (b : BridgeNo) : s.TakesStable b s :=
  ⟨(State.OnlyBridge.refl s b).sparesAccounts, rfl, _, rfl⟩

theorem State.TakesStable.requestWrite (h : State.TakesStable b s t) (r : Requester) (body : RecordBody) :
    State.TakesStable b s (t.requestWrite r body) := by
  have hbridge : (t.requestWrite r body).bridge b = t.bridge b := by simp [State.bridge]
  have hchannel : (t.requestWrite r body).channel b = t.channel b := by simp [State.channel]
  exact ⟨h.toSparesAccounts.trans (State.requestWrite_sparesTables r body).sparesAccounts, by rw [hbridge, h.present],
    by rw [hchannel]; exact h.channel⟩

theorem State.TakesStable.grossCapture (h : State.TakesStable b s t) (vehicle cls grower insp : Nat) (wish : Bool)
    (kg : Nat) : State.TakesStable b s (t.grossCapture b vehicle cls grower insp wish kg).1 := by
  have hcounted (v : Table Vehicle) :
      State.TakesStable b s { t with dt := { t.dt with counter := t.dt.counter + 1 }, vehicles := v } :=
    ⟨h.toSparesAccounts.trans ⟨rfl, rfl, rfl, rfl, rfl, rfl, rfl, rfl, fun _ _ => ⟨rfl, rfl⟩⟩, h.present, h.channel⟩
  exact iteInduction (fun _ => hcounted _) (fun _ => hcounted _)

theorem State.captured_takesStable : s.TakesStable b (s.captured b) :=
  ⟨(s.modBridge_onlyBridge b _).sparesAccounts, by simp [State.captured], _, rfl⟩

theorem State.captureTest_takesStable (r : Int) : s.TakesStable b (s.captureTest b r) := by
  have hcaptured := State.captured_takesStable (s := s) (b := b)
  unfold State.captureTest
  dsimp only
  split
  · split
    · exact .refl s b
    · split
      · exact (hcaptured.grossCapture _ _ _ _ _ _).requestWrite _ _
      · split
        · exact hcaptured.requestWrite _ _
        · exact .refl s b
  · exact .refl s b

theorem State.stepReading_takesStable (count : Int) : s.TakesStable b (s.stepReading b count) := by
  have hset (x : Session) (body : NoticeBody) :
      s.TakesStable b ((s.modChannel b fun c => { c with session := some x }).notify body) :=
    ⟨((s.modChannel_onlyBridge b _).sparesTables.trans (State.notify_sparesTables body)).sparesAccounts,
      by simp [State.bridge], some x, by rw [State.channel, State.notify_channels]; exact State.modChannel_channel b _⟩
  unfold State.stepReading
  split
  · exact .refl s b
  · split
    · exact .refl s b
    · split
      · exact hset _ _
      · exact hset _ _

/-- The zero check ends no period: none is in progress at a stable reading. -/
theorem State.zeroCheck_takesStable (hperiod : (s.channel b).period = none) (r count : Int) :
    s.TakesStable b (s.zeroCheck b r count) := by
  unfold State.zeroCheck
  dsimp only
  split
  · split
    · refine ⟨(s.takeZero_onlyBridge b count).sparesAccounts, ?_, (s.channel b).session, ?_⟩
      · rw [State.takeZero, State.rearmZero, State.modBridge_bridge, State.modBridge_bridge, State.setZero_bridge]
      · rw [State.takeZero_channel, Channel.endPeriod_of_none hperiod]
    · obtain ⟨hchannels, -⟩ := s.enterLocked_accounts b .zeroBand none
      refine ⟨(State.enterLocked_sparesTables _ _).sparesAccounts, ?_, (s.channel b).session,
        congrArg (·.get b) hchannels⟩
      rw [State.enterLocked_bridge]
      rfl
  · exact .refl s b

theorem State.stableEnding_takesStable (hperiod : (s.channel b).period = none) (r count : Int) :
    s.TakesStable b (s.stableEnding b r count) := by
  unfold State.stableEnding
  split
  · exact State.stepReading_takesStable count
  · exact State.captureTest_takesStable r
  · exact State.zeroCheck_takesStable hperiod r count
  all_goals exact .refl s b

/-! ## The stability period (R123) -/

/-- What a reading makes of the period in progress and of last period stable (R123). -/
def Channel.periodAt (c : Channel) (reading : Int) : Option Period × Bool :=
  match c.period with
  | none => (some ⟨reading, 0⟩, c.lastStable)
  | some p =>
    if c.active.division < (reading - p.first).natAbs then (some ⟨reading, 0⟩, false)
    else if 10 * c.active.stability ≤ p.conversions + 1 then (none, true)
    else (some { p with conversions := p.conversions + 1 }, c.lastStable)

section

variable {c : Channel} {p : Period} {r : Int}

theorem Channel.periodAt_begins (h : c.period = none) : c.periodAt r = (some ⟨r, 0⟩, c.lastStable) := by
  simp only [Channel.periodAt, h]

theorem Channel.periodAt_strays (h : c.period = some p) (hstray : c.active.division < (r - p.first).natAbs) :
    c.periodAt r = (some ⟨r, 0⟩, false) := by
  simp only [Channel.periodAt, h, if_pos hstray]

theorem Channel.periodAt_ends (h : c.period = some p) (hnear : (r - p.first).natAbs ≤ c.active.division)
    (hlong : 10 * c.active.stability ≤ p.conversions + 1) : c.periodAt r = (none, true) := by
  simp only [Channel.periodAt, h, if_neg (Nat.not_lt.mpr hnear), if_pos hlong]

theorem Channel.periodAt_within (h : c.period = some p) (hnear : (r - p.first).natAbs ≤ c.active.division)
    (hshort : p.conversions + 1 < 10 * c.active.stability) :
    c.periodAt r = (some ⟨p.first, p.conversions + 1⟩, c.lastStable) := by
  simp only [Channel.periodAt, h, if_neg (Nat.not_lt.mpr hnear), if_neg (Nat.not_le.mpr hshort)]

end

/-- A period that ends stable is acted on at once; else the period alone changes (R123, R124). -/
theorem State.stability_eq (r count : Int) :
    let v := s.modChannel b fun c => { c with period := (c.periodAt r).1, lastStable := (c.periodAt r).2 }
    s.stability b r count = if ((s.channel b).periodAt r).1 = none then v.stableEnding b r count else v := by
  intro v
  have hv {x : Option Period × Bool} (hx : (s.channel b).periodAt r = x) :
      v = s.modChannel b fun c => { c with period := x.1, lastStable := x.2 } :=
    State.modChannel_congr (by rw [hx])
  unfold State.stability
  dsimp only
  split
  · next hnone =>
    have hbegins := Channel.periodAt_begins (r := r) hnone
    rw [hv hbegins, hbegins, if_neg nofun]
    exact State.modChannel_congr rfl
  · next p hp =>
    split
    · next hstray =>
      have hstrays := Channel.periodAt_strays hp hstray
      rw [hv hstrays, hstrays, if_neg nofun]
    · next hnear =>
      split
      · next hlong =>
        have hends := Channel.periodAt_ends hp (Nat.not_lt.mp hnear) hlong
        rw [hv hends, hends, if_pos rfl]
      · next hshort =>
        have hwithin := Channel.periodAt_within hp (Nat.not_lt.mp hnear) (Nat.not_le.mp hshort)
        rw [hv hwithin, hwithin, if_neg nofun]
        exact State.modChannel_congr rfl

theorem State.stability_effect (r count : Int) :
    let t := s.stability b r count
    s.SparesAccounts b t ∧ (t.bridge b).present = (s.bridge b).present ∧
      ∃ x, t.channel b = { s.channel b with
        period := ((s.channel b).periodAt r).1, lastStable := ((s.channel b).periodAt r).2, session := x } := by
  let v := s.modChannel b fun c => { c with period := (c.periodAt r).1, lastStable := (c.periodAt r).2 }
  have hv : s.SparesAccounts b v := (s.modChannel_onlyBridge b _).sparesAccounts
  have hchannel : v.channel b = _ := s.modChannel_channel b _
  rw [State.stability_eq]
  dsimp only
  split
  · next hends =>
    have htakes : v.TakesStable b (v.stableEnding b r count) :=
      State.stableEnding_takesStable (by rw [hchannel]; exact hends) r count
    obtain ⟨x, hx⟩ := htakes.channel
    exact ⟨hv.trans htakes.toSparesAccounts, htakes.present, x, by rw [hx, hchannel]⟩
  · exact ⟨hv, rfl, (s.channel b).session, hchannel⟩

/-! ## A reading is taken (R122, R125) -/

/-- The channel at a reading, with its range flags (R125). -/
def Channel.readAs (c : Channel) (reading : Int) : Channel :=
  { c with
      rounded := some reading
      overrange := decide (((c.active.capacity + 9 * c.active.division : Nat) : Int) < reading)
      underrange := decide (reading < -((20 * c.active.division : Nat) : Int)) }

/-- A reading formed, and its range flags judged from it (R122, R125). -/
def State.formed (s : State) (b : BridgeNo) (reading : Int) : State :=
  let c := (s.channel b).readAs reading
  ((s.modChannel b fun c => { c with rounded := some reading }).setRange b .over c.overrange).setRange b .under
    c.underrange

theorem State.formed_onlyBridge (reading : Int) : s.OnlyBridge b (s.formed b reading) :=
  (((State.modChannel_onlyReading _).trans (State.setRange_onlyReading .over _)).trans
    (State.setRange_onlyReading .under _)).toOnlyBridge

theorem State.formed_present (reading : Int) : ((s.formed b reading).bridge b).present = (s.bridge b).present :=
  ((State.setRange_sameDeck (s := s.modChannel b _) .over _).trans (State.setRange_sameDeck .under _)).fields.2.1

theorem State.formed_channel (reading : Int) : (s.formed b reading).channel b = (s.channel b).readAs reading := by
  rw [State.formed, State.setRange_channel, State.setRange_channel, State.modChannel_channel]
  rfl

theorem State.takeReading_eq (filtered : Int) :
    let c := s.channel b
    let reading := roundedReading c.active c.cal (s.bridge b).currentZero filtered
    let v := (s.formed b reading).judgePresence b
    s.takeReading b filtered =
      if (v.bridge b).present = (s.bridge b).present then v.stability b reading filtered else v := by
  intro c reading v
  rw [← State.formed_present (s := s) reading]
  rfl

/-- Where the reading leaves PRESENT, the period goes on by it; where it sets PRESENT, the period ends (R93, R123;
logs 11, 42). -/
theorem State.takeReading_effect (filtered : Int) :
    let c := s.channel b
    let reading := roundedReading c.active c.cal (s.bridge b).currentZero filtered
    let t := s.takeReading b filtered
    s.SparesAccounts b t ∧
      ((t.bridge b).present = (s.bridge b).present → ∃ x, t.channel b = { c.readAs reading with
        period := (c.periodAt reading).1, lastStable := (c.periodAt reading).2, session := x }) ∧
      ((t.bridge b).present ≠ (s.bridge b).present → t.channel b = (c.readAs reading).endPeriod) := by
  intro c reading t
  let v := (s.formed b reading).judgePresence b
  have hv : s.SparesAccounts b v := ((s.formed_onlyBridge reading).trans State.judgePresence_onlyBridge).sparesAccounts
  have hends : v.channel b =
      if (v.bridge b).present = (s.bridge b).present then c.readAs reading else (c.readAs reading).endPeriod := by
    have hjudged := State.judgePresence_ends (s := s.formed b reading) (b := b)
    rwa [State.formed_present, State.formed_channel] at hjudged
  have ht : t = if (v.bridge b).present = (s.bridge b).present then v.stability b reading filtered else v :=
    State.takeReading_eq filtered
  by_cases hpresent : (v.bridge b).present = (s.bridge b).present
  · obtain ⟨hspares, hkept, x, hx⟩ := State.stability_effect (s := v) (b := b) reading filtered
    rw [if_pos hpresent] at ht hends
    rw [hends] at hx
    rw [ht]
    exact ⟨hv.trans hspares, fun _ => ⟨x, hx⟩, fun hchanged => absurd (hkept.trans hpresent) hchanged⟩
  · rw [if_neg hpresent] at ht hends
    rw [ht]
    exact ⟨hv, fun hkept => absurd hkept hpresent, fun _ => hends⟩

/-! ## A conversion that joins the mean (R121) -/

theorem exec_conversion (count : Int) (agree : Bool) :
    exec (.loadCellConversion b count agree) s = .next (s.convert b count agree).settleLink := rfl

section

variable (h : ¬ (agree = false ∨ count = -8388608 ∨ count = 8388607)) (hflag : (s.channel b).wireOff = false)

include h hflag

theorem State.convert_fills (hlen : (s.channel b).olderCounts.length + 1 < 2 ^ (s.channel b).active.filter) :
    s.convert b count agree = s.modChannel b fun c => { c.checkPassed with mean := count :: c.olderCounts } := by
  rw [State.convert_joins h hflag, State.joinMean_filling (by rw [State.modChannel_channel]; exact hlen),
    State.modChannel_modChannel]
  rfl

/-- A mean that fills forms a filtered count, and on a configured channel a reading (R120, R121). -/
theorem State.convert_full (hlen : (s.channel b).olderCounts.length + 1 = 2 ^ (s.channel b).active.filter) :
    let filtered := roundAway (count + (s.channel b).olderCounts.sum) (2 ^ (s.channel b).active.filter : Nat)
    let u := s.modChannel b fun c => { c.checkPassed with mean := count :: c.olderCounts, filtered := filtered }
    s.convert b count agree =
      if (s.channel b).active = ChannelConfig.allZero then u else u.takeReading b filtered := by
  intro filtered u
  have hpassed : (s.modChannel b Channel.checkPassed).channel b = (s.channel b).checkPassed := s.modChannel_channel b _
  rw [State.convert_joins h hflag, State.joinMean_full (by rw [hpassed]; exact hlen), hpassed,
    State.modChannel_modChannel]
  rfl

/-- On an all-zero channel the mean is one count, and forms no reading (R120, R121). -/
theorem State.convert_unconfigured (hactive : (s.channel b).active = ChannelConfig.allZero) :
    s.convert b count agree = s.modChannel b fun c => { c.checkPassed with mean := [count], filtered := count } := by
  have hnone : (s.channel b).olderCounts = [] := by
    rw [Channel.olderCounts, hactive]
    rfl
  have hfiltered :
      roundAway (count + (s.channel b).olderCounts.sum) (2 ^ (s.channel b).active.filter : Nat) = count := by
    rw [hnone, hactive, List.sum_nil, add_zero]
    exact roundAway_one count
  have hfull := (State.convert_full h hflag (by rw [hnone, hactive]; rfl)).trans (if_pos hactive)
  rw [hfull, hfiltered]
  refine State.modChannel_congr ?_
  rw [hnone]

end

theorem State.settleLink_sparesAccounts (h : s.link.input = []) : s.SparesAccounts b s.settleLink ∧
    s.settleLink.bridge b = s.bridge b ∧ s.settleLink.channel b = s.channel b := by
  rw [s.settleLink_of_empty h]
  have hbridge (d : BridgeNo) : s.pump.bridge d = s.bridge d := by simp [State.bridge]
  have hchannel (d : BridgeNo) : s.pump.channel d = s.channel d := by simp [State.channel]
  exact ⟨⟨by simp, by simp, by simp, by simp, by simp, by simp, by simp, by simp,
    fun d _ => ⟨hbridge d, hchannel d⟩⟩, hbridge b, hchannel b⟩

/-- A conversion that forms a reading, where no byte waits at the port: what it leaves is the reading's (R121 to R123,
R125). -/
theorem exec_conversion_reads (hinput : s.link.input = []) (h : ¬ (agree = false ∨ count = -8388608 ∨ count = 8388607))
    (hflag : (s.channel b).wireOff = false) (hactive : (s.channel b).active ≠ ⟨0, 0, 0, 0, 0, 0⟩)
    (hspan : (s.channel b).cal.spanCounts ≠ (s.channel b).cal.zeroCounts)
    (hlen : (s.channel b).olderCounts.length + 1 = 2 ^ (s.channel b).active.filter) :
    let c := s.channel b
    let filtered := roundAway (count + c.olderCounts.sum) (2 ^ c.active.filter : Nat)
    let reading := roundAway ((filtered - (s.bridge b).currentZero) * c.cal.testMass)
      ((c.cal.spanCounts - c.cal.zeroCounts) * c.active.division) * c.active.division
    let joined : Channel := { c.checkPassed with mean := count :: c.olderCounts, filtered := filtered }
    ∃ t, exec (.loadCellConversion b count agree) s = .next t ∧ s.SparesAccounts b t ∧
      ((t.bridge b).present = (s.bridge b).present → ∃ x, t.channel b = { joined.readAs reading with
        period := (c.periodAt reading).1, lastStable := (c.periodAt reading).2, session := x }) ∧
      ((t.bridge b).present ≠ (s.bridge b).present → t.channel b = (joined.readAs reading).endPeriod) := by
  intro c filtered reading joined
  let w := s.modChannel b fun c => { c.checkPassed with mean := count :: c.olderCounts, filtered := filtered }
  let u := w.takeReading b filtered
  have hw : s.SparesAccounts b w := (s.modChannel_onlyBridge b _).sparesAccounts
  have hjoined : w.channel b = joined := s.modChannel_channel b _
  have hreading : roundedReading joined.active joined.cal (w.bridge b).currentZero filtered = reading := if_neg hspan
  have hread := State.takeReading_effect (s := w) (b := b) filtered
  dsimp only at hread
  rw [hjoined, hreading] at hread
  obtain ⟨hspares, hkept, hset⟩ := hread
  have hconvert : s.convert b count agree = u := (State.convert_full h hflag hlen).trans (if_neg hactive)
  have hexec : exec (.loadCellConversion b count agree) s = .next u.settleLink := by
    rw [exec_conversion, hconvert]
  have hu := hw.trans hspares
  obtain ⟨hsettled, hbridge, hchannel⟩ := State.settleLink_sparesAccounts (b := b) (hu.input.trans hinput)
  refine ⟨u.settleLink, hexec, hu.trans hsettled, ?_⟩
  rw [hbridge, hchannel]
  exact ⟨hkept, hset⟩

end

/-- Settles O47: a reading by `exec_conversion_reads`, its period by `Channel.periodAt`'s cases, the runs of checks by
`State.convert`'s. -/
theorem conversionsFormReadings : Obligations.ConversionsFormReadings := by
  refine ⟨fun s b count hinput hflag => ⟨?_, ?_⟩, ?_⟩
  · intro older hlow hhigh hactive hspan holder hlen c filtered reading
    subst holder
    have hpasses : ¬ (true = false ∨ count = -8388608 ∨ count = 8388607) := by
      rintro (h | h | h)
      · exact nomatch h
      · omega
      · omega
    obtain ⟨t, hexec, hspares, hkept, hset⟩ := exec_conversion_reads hinput hpasses hflag hactive hspan hlen
    have hfields : ∃ p l x, t.channel b = { Channel.readAs { c.checkPassed with
        mean := count :: c.olderCounts, filtered := filtered } reading with
        period := p, lastStable := l, session := x } := by
      by_cases hpresent : (t.bridge b).present = (s.bridge b).present
      · obtain ⟨x, hx⟩ := hkept hpresent
        exact ⟨_, _, x, hx⟩
      · exact ⟨_, _, _, (hset hpresent).trans (Channel.endPeriod_fields _)⟩
    obtain ⟨p, l, x, hfields⟩ := hfields
    have hperiod {x : Option Period × Bool} (hpresent : (t.bridge b).present = (s.bridge b).present)
        (hx : c.periodAt reading = x) : (t.channel b).period = x.1 ∧ (t.channel b).lastStable = x.2 := by
      obtain ⟨y, hy⟩ := hkept hpresent
      rw [hy, ← hx]
      exact ⟨rfl, rfl⟩
    have hended (hpresent : (t.bridge b).present ≠ (s.bridge b).present) : (t.channel b).period = none ∧
        (t.channel b).lastStable = if c.period.isSome then false else c.lastStable := by
      rw [hset hpresent, Channel.endPeriod_fields]
      exact ⟨rfl, rfl⟩
    refine ⟨t, hexec, by rw [hfields]; rfl, by rw [hfields]; rfl, by rw [hfields]; rfl, by rw [hfields]; rfl,
      by rw [hfields]; rfl, by rw [hfields]; rfl, by rw [hfields]; rfl, by rw [hfields]; rfl, by rw [hfields]; rfl,
      hspares.others, fun hpresent => ⟨fun hnone => ?_, fun p hp => ⟨fun hstray => ?_, fun hnear hshort => ?_,
        fun hnear hlong => ?_⟩⟩, fun hpresent => ?_, hspares.records, hspares.feed, hspares.windows,
      hspares.growers, hspares.shift, hspares.clock, hspares.pending⟩
    · exact hperiod hpresent (Channel.periodAt_begins hnone)
    · exact hperiod hpresent (Channel.periodAt_strays hp hstray)
    · exact hperiod hpresent (Channel.periodAt_within hp hnear hshort)
    · exact hperiod hpresent (Channel.periodAt_ends hp hnear hlong)
    · obtain ⟨hnone, hlast⟩ := hended hpresent
      exact ⟨hnone, fun hsome => hlast.trans (if_pos (Option.isSome_iff_ne_none.mpr hsome)),
        fun hquiet => hlast.trans (if_neg (by simp [hquiet]))⟩
  · intro hrun agree h
    rw [exec_conversion, State.convert_counts h (.inl hrun)]
    rfl
  · intro s b count agree c fails passed failed older
    have hchannel (f : Channel → Channel) : (s.modChannel b f).channel b = f c := s.modChannel_channel b f
    refine ⟨fun h hflag hlen => ?_, fun h hflag hactive => ?_, fun h hflag hrun => ?_, fun h hflag => ?_,
      fun h hflag hrun => ?_, fun h hflag hrun => ?_⟩
    · rw [exec_conversion, State.convert_fills h hflag hlen]
      rfl
    · rw [exec_conversion, State.convert_unconfigured h hflag hactive]
      rfl
    · rw [exec_conversion, State.convert_raises h hrun hflag]
      have hreached : (s.modChannel b Channel.checkFailed).wireOffRun b = _ :=
        State.wireOffRun_reached (by rw [hchannel]; exact hflag) (by rw [hchannel]; exact hrun)
          (by rw [hchannel]; rfl)
      rw [← hreached]
      rfl
    · rw [exec_conversion, State.convert_counts h (.inr hflag)]
      rfl
    · rw [exec_conversion, State.convert_waits h hflag hrun]
      rfl
    · rw [exec_conversion, State.convert_clears h hflag hrun]
      have hreached : (s.modChannel b Channel.checkPassed).wireClearRun b = _ :=
        State.wireClearRun_reached (by rw [hchannel]; exact hflag) (by rw [hchannel]; exact hrun)
          (by rw [hchannel]; rfl)
      rw [← hreached]
      rfl

end Sys2Proof.Machine

/-! SUPPORT. The port's own requests: what ATTENTION, LINK SET and TIME SET take and refuse. -/
namespace Sys2Proof.Machine

open Sys2Proof

section

variable {s : State}

/-! ## LINK SET (R198) -/

theorem decideLinkSet_taken {a b : Nat} (ha : a ≤ 16) (hb : b ≤ 64) :
    let least := if a = 0 then s.link.minRun else a
    let most := if b = 0 then s.link.maxRun else b
    decideLinkSet a b s =
      .take { s with link := { s.link with minRun := least, maxRun := most } } (.linkSettings least most) :=
  if_neg (by omega)

theorem decideLinkSet_refused {a b : Nat} (h : 16 < a ∨ 64 < b) : decideLinkSet a b s = .refuse .badField := if_pos h

/-! ## TIME SET (R183) -/

theorem validTime_iff {t : MillTime} : validTime t = true ↔
    2000 ≤ t.year ∧ t.year ≤ 2199 ∧ 1 ≤ t.month ∧ t.month ≤ 12 ∧ 1 ≤ t.day ∧ t.day ≤ daysIn t.year t.month ∧
      t.hour ≤ 23 ∧ t.minute ≤ 59 ∧ t.second ≤ 59 := decide_eq_true_iff

theorem decideTimeSet_taken {t : MillTime} (h : validTime t = true) : decideTimeSet t s =
    .take { s with clock := { s.clock with reading := t, isSet := true, ms := 0 } } (.clockBefore s.clock.reading) :=
  if_pos h

theorem decideTimeSet_refused {t : MillTime} (h : ¬ validTime t = true) : decideTimeSet t s = .refuse .badField :=
  if_neg h

end

/-- Settles O17: each request by its owner's decision, the reading of TIME SET by the nine bounds of a valid time. -/
theorem thePortsOwnRequestsAreTaken : Obligations.ThePortsOwnRequestsAreTaken := by
  refine ⟨fun s tag h => exec_taken h .attention rfl rfl, fun s tag h => ⟨?_, ?_, ?_, ?_⟩⟩
  · intro a b ha hb
    exact exec_taken h (.linkSet a b) (decideLinkSet_taken ha hb) rfl
  · intro a b hbad
    exact exec_refused h (.linkSet a b) (decideLinkSet_refused hbad) rfl
  · intro t hyear hyear' hmonth hmonth' hday hday' hhour hminute hsecond
    have hvalid := validTime_iff.mpr ⟨hyear, hyear', hmonth, hmonth', hday, hday', hhour, hminute, hsecond⟩
    exact exec_taken h (.timeSet t) (decideTimeSet_taken hvalid) rfl
  · intro t hbad
    have hinvalid : ¬ validTime t = true := by
      rw [validTime_iff]
      omega
    exact exec_refused h (.timeSet t) (decideTimeSet_refused hinvalid) rfl

end Sys2Proof.Machine

/-! SUPPORT. The input lines: raw changes of a wire, the level that a line takes, and what it then delivers. -/
namespace Sys2Proof.Machine

open Sys2Proof

section

variable {s : State} {line : InputLine} {i : Input} {high : Bool}

/-! ## Writing an input line -/

@[simp] theorem FieldLines.setInput_input (l : FieldLines) (line : InputLine) : l.setInput line (l.input line) = l := by
  cases line with
  | e b | x b => cases b <;> rfl
  | cp | jp | wp | tr | ss => rfl

@[simp] theorem State.setInput_input (s : State) (line : InputLine) : s.setInput line (s.lines.input line) = s := by
  rw [State.setInput, FieldLines.setInput_input]

/-! ## Raw changes (R143, R154) -/

theorem exec_rawLevelChange : exec (.rawLevelChange line high) s =
    .next (s.setInput line ((s.lines.input line).rawChange high)).settleLink := rfl

theorem Input.rawChange_same (h : i.raw = high) : i.rawChange high = i := if_pos h

theorem Input.rawChange_unsettled (h : i.raw ≠ high) (hf : i.filtered = none) :
    i.rawChange high = { i with raw := high, steady := 0 } := by
  simp only [Input.rawChange, if_neg h, hf]

theorem Input.rawChange_back (h : i.raw ≠ high) (hf : i.filtered = some high) :
    i.rawChange high = { i with raw := high, hold := none } := by
  simp only [Input.rawChange, if_neg h, hf, if_true]

theorem Input.rawChange_away (h : i.raw ≠ high) (hf : i.filtered = some (!high)) :
    i.rawChange high = { i with raw := high, hold := some 0 } := by
  simp only [Input.rawChange, if_neg h, hf, if_neg (Bool.not_ne_self high)]

/-! ## The level that waits (R143, R154) -/

theorem Input.heldFor_isSome : i.heldFor.isSome = true ↔ i.filtered = none ∨ i.hold.isSome = true := by
  unfold Input.heldFor
  cases i.filtered <;> simp

theorem Input.heldFor_unsettled (h : i.filtered = none) : i.heldFor = some i.steady := by
  simp only [Input.heldFor, h]

theorem Input.heldFor_settled (h : i.filtered ≠ none) : i.heldFor = i.hold := by
  obtain ⟨f, hf⟩ := Option.ne_none_iff_exists'.mp h
  simp only [Input.heldFor, hf]

/-! ## What a line delivers (R144, R147, R148) -/

theorem State.deliverLevel_pulse (h : line ∈ [InputLine.cp, .jp, .wp, .ss]) : s.deliverLevel line = s := by
  cases line with
  | cp | jp | wp | ss => rfl
  | e b | x b | tr => simp at h

theorem State.deliverLevel_tr :
    s.deliverLevel .tr = if s.lines.tr.level = some true then s.samplerTest else s := by
  simp only [State.deliverLevel, State.running, beq_iff_eq]

/-- Where the level that was no inactive one, or where the line has no edges, taking a level delivers just the level. -/
theorem State.takeLevel_no_edge (h : (s.lines.input line).level ≠ some false ∨ ∀ t : State, t.deliverEdge line = t) :
    s.takeLevel line = (s.levelTaken line).deliverLevel line := by
  unfold State.takeLevel
  rcases h with hlevel | hnone
  · exact if_neg (by simp [hlevel])
  · simp only [hnone, ite_self]
    rfl

/-! ## The hold timer runs out (R143, R154) -/

theorem exec_inputHoldExpiry : exec (.inputHoldExpiry line) s = .next (s.holdExpired line).settleLink := rfl

theorem State.holdExpired_takes (h : (s.lines.input line).filtered = none ∨ (s.lines.input line).hold.isSome = true) :
    s.holdExpired line = s.takeLevel line := if_pos (Input.heldFor_isSome.mpr h)

theorem State.holdExpired_stopped (hf : (s.lines.input line).filtered.isSome = true)
    (hh : (s.lines.input line).hold = none) : s.holdExpired line = s := by
  refine if_neg ?_
  rw [Input.heldFor_isSome]
  simp [Option.isSome_iff_ne_none.mp hf, hh]

/-- The end of a hold timer that delivers no edge. -/
theorem exec_inputHoldExpiry_level
    (hheld : (s.lines.input line).filtered = none ∨ (s.lines.input line).hold.isSome = true)
    (hedge : (s.lines.input line).level ≠ some false ∨ ∀ t : State, t.deliverEdge line = t) :
    exec (.inputHoldExpiry line) s = .next ((s.levelTaken line).deliverLevel line).settleLink := by
  rw [exec_inputHoldExpiry, State.holdExpired_takes hheld, State.takeLevel_no_edge hedge]

end

/-- Settles O36: a raw change by the four cases of `Input.rawChange`, a hold timer's end by what the line delivers. -/
theorem filteredLevelsFollowTheWire : Obligations.FilteredLevelsFollowTheWire := by
  refine ⟨fun s line high => ⟨fun h => ?_, fun h hf => ?_, fun h hf => ?_, fun h hf => ?_⟩,
    fun s => ⟨fun line hpulse h => ?_, fun b h => ?_, fun b h => ?_, fun hlow h => ?_, fun line hf hh => ?_⟩⟩
  · rw [exec_rawLevelChange, Input.rawChange_same h]
  · rw [exec_rawLevelChange, Input.rawChange_away h hf]
  · rw [exec_rawLevelChange, Input.rawChange_unsettled h hf]
  · rw [exec_rawLevelChange, Input.rawChange_back h hf]
  · have hheld := h.imp_right And.left
    have hlevel : (s.lines.input line).level ≠ some false := by
      rcases h with hf | ⟨-, hactive⟩
      · simp [Input.level, hf]
      · simp [hactive]
    rw [exec_inputHoldExpiry_level hheld (.inl hlevel), State.deliverLevel_pulse hpulse]
  · exact exec_inputHoldExpiry_level h (.inr fun _ => rfl)
  · exact exec_inputHoldExpiry_level h (.inr fun _ => rfl)
  · rw [exec_inputHoldExpiry_level (line := .tr) h (.inr fun _ => rfl), State.deliverLevel_tr, if_neg (by simp [hlow])]
  · rw [exec_inputHoldExpiry, State.holdExpired_stopped hf hh]

end Sys2Proof.Machine

/-! SUPPORT. LINE SET: what each setting makes of its line, and what is refused. -/
namespace Sys2Proof.Machine

open Sys2Proof

section

variable {s : State} {line : InputLine} {b : BridgeNo} {es : List (Nat × Nat)} {v : Nat}

/-! ## Lines by their ids (R203) -/

theorem lineOf_bad {id : Nat} (h : id = 0 ∨ 23 < id) : lineOf id = none := by
  cases ht : lineOf id with
  | none => rfl
  | some t =>
    have hrange : 1 ≤ id ∧ id ≤ 23 := by
      unfold lineOf at ht
      split at ht <;> simp at ht ⊢
    omega

@[simp] theorem lineOf_entryLamp (b : BridgeNo) : lineOf (13 + bridgeCode b) = some (.entryLamp b) := by cases b <;> rfl

@[simp] theorem lineOf_exitLamp (b : BridgeNo) : lineOf (17 + bridgeCode b) = some (.exitLamp b) := by cases b <;> rfl

/-! ## The decision (R155) -/

theorem decideLineSet_taken {id : Nat} {t : LineTarget} (ht : lineOf id = some t)
    (hok : entriesOk 0 3 (settingOk t) es = true) :
    decideLineSet id es s = .take (s.lineSet t es) (.line ((s.lineSet t es).lineReport t)) := by
  simp only [decideLineSet, ht, if_pos hok]

theorem decideLineSet_noLine {id : Nat} (h : lineOf id = none) : decideLineSet id es s = .refuse .badField := by
  simp only [decideLineSet, h]

theorem decideLineSet_badSetting {id : Nat} {t : LineTarget} {e : Nat × Nat} (ht : lineOf id = some t) (he : e ∈ es)
    (hbad : settingOk t e.1 e.2 = false) : decideLineSet id es s = .refuse .badField := by
  have hno : entriesOk 0 3 (settingOk t) es ≠ true := by
    rw [ne_eq, entriesOk_iff]
    rintro ⟨-, -, -, hall⟩
    exact nomatch hbad.symm.trans (hall e he)
  simp only [decideLineSet, ht, if_neg hno]

/-- One setting that its line has, with a value of its range, is taken. -/
theorem exec_lineSet_one {id k : Nat} {t : LineTarget} {u : State} {tag : Byte} (h : s.ready) (ht : lineOf id = some t)
    (hok : settingOk t k v = true) (hu : s.lineSet t [(k, v)] = u) :
    exec (.lineSet tag id [(k, v)]) s = .next (u.okReply 0xD1 tag (.line (u.lineReport t))) := by
  subst hu
  have hentries : entriesOk 0 3 (settingOk t) [(k, v)] = true := entriesOk_iff.mpr (by simp [hok])
  exact exec_taken h (.lineSet id [(k, v)]) (decideLineSet_taken ht hentries) rfl

/-! ## Settings of an input line (R145, R148, R155) -/

@[simp] theorem FieldLines.input_setMass (l : FieldLines) (line other : InputLine) (v : Nat) :
    (l.setMass line v).input other = l.input other := by
  cases line <;> rfl

theorem State.setInputSettings_nil : s.setInputSettings line [] = s := s.setInput_input line

theorem State.setInputSettings_mass :
    s.setInputSettings line [(3, v)] = { s with lines := s.lines.setMass line v } :=
  congrArg (fun t : State => { t with lines := t.lines.setMass line v }) (s.setInput_input line)

theorem State.setInputSettings_filter :
    s.setInputSettings line [(2, v)] = s.setInput line { s.lines.input line with filterMs := v } := rfl

/-- Settings that leave the polarity, with no new filter time that the waiting level has held for, have no effect
beyond themselves. -/
theorem State.lineSetInput_quiet
    (hsame : ((s.setInputSettings line es).lines.input line).polarity = (s.lines.input line).polarity)
    (hwaits : ∀ ms held, settingGiven 2 es = some ms →
      ((s.setInputSettings line es).lines.input line).heldFor = some held → held < ms) :
    s.lineSetInput line es = s.setInputSettings line es := by
  have hcases := s.lineSetInput_cases line es
  simp only [if_neg (fun h : _ ≠ _ ∧ _ => h.1 hsame)] at hcases
  rcases hcases with hset | ⟨-, ms, held, hgiven, hheld, hle⟩
  · exact hset
  · exact absurd (hwaits ms held hgiven hheld) (Nat.not_lt.mpr hle)

/-- Settings that leave the polarity, with a new filter time that the waiting level has held for, take that level. -/
theorem State.lineSetInput_takes {ms held : Nat}
    (hsame : ((s.setInputSettings line es).lines.input line).polarity = (s.lines.input line).polarity)
    (hgiven : settingGiven 2 es = some ms)
    (hheld : ((s.setInputSettings line es).lines.input line).heldFor = some held) (hle : ms ≤ held) :
    s.lineSetInput line es = (s.setInputSettings line es).takeLevel line := by
  simp only [State.lineSetInput, if_neg (fun h : _ ≠ _ ∧ _ => h.1 hsame), hgiven, hheld, if_pos hle]

/-- With no setting given, no line changes (R155). -/
theorem State.lineSet_nil (t : LineTarget) : s.lineSet t [] = s := by
  cases t with
  | input line =>
    have hset := s.setInputSettings_nil (line := line)
    exact (State.lineSetInput_quiet (by rw [hset]) (by simp [settingGiven])).trans hset
  | entryLamp b | exitLamp b | sc | al => rfl

theorem State.lineSetInput_mass : s.lineSetInput line [(3, v)] = { s with lines := s.lines.setMass line v } := by
  have hset := s.setInputSettings_mass (line := line) (v := v)
  exact (State.lineSetInput_quiet (by rw [hset, FieldLines.input_setMass])
    (by simp [settingGiven])).trans hset

/-- A new polarity of a settled line is delivered as a change (R148). -/
theorem State.lineSetInput_polarity :
    let i := s.lines.input line
    let set := s.setInput line { i with polarity := polarityOf v }
    s.lineSetInput line [(1, v)] =
      if polarityOf v ≠ i.polarity ∧ i.filtered.isSome = true then set.deliverLevel line else set := by
  intro i set
  have hnew : set.lines.input line = { i with polarity := polarityOf v } := FieldLines.input_setInput _ _ _
  have htold : s.lineSetInput line [(1, v)] =
      if (set.lines.input line).polarity ≠ i.polarity ∧ i.filtered.isSome = true then set.deliverLevel line else set :=
    rfl
  rw [htold, hnew]

/-- A line whose filter time is set, before any effect, is the line as it was but for that time. -/
theorem State.setInputSettings_filter_input : (s.setInputSettings line [(2, v)]).lines.input line =
    { s.lines.input line with filterMs := v } := by
  rw [State.setInputSettings_filter, State.setInput_lines, FieldLines.input_setInput]

theorem State.lineSetInput_filter_takes {held : Nat} (h : (s.lines.input line).heldFor = some held) (hle : v ≤ held) :
    s.lineSetInput line [(2, v)] = (s.setInput line { s.lines.input line with filterMs := v }).takeLevel line :=
  State.lineSetInput_takes (by rw [State.setInputSettings_filter_input]) rfl
    (by rw [State.setInputSettings_filter_input]; exact h) hle

theorem State.lineSetInput_filter_waits (h : ∀ held, (s.lines.input line).heldFor = some held → held < v) :
    s.lineSetInput line [(2, v)] = s.setInput line { s.lines.input line with filterMs := v } := by
  refine State.lineSetInput_quiet (by rw [State.setInputSettings_filter_input]) fun ms held hgiven hheld => ?_
  rw [State.setInputSettings_filter_input] at hheld
  exact Option.some.inj hgiven ▸ h held hheld

/-! ## The safe value of a lamp (R152) -/

/-- A lamp's new safe value, shown at once under a SAFE demand. -/
theorem Lamp.setSafe_eq (old : Lamp) (demand : LampDemand) (v : Nat) :
    old.setSafe (safeValueOf v) demand = { old with
      safe := if v = 0 then .off else if v = 1 then .on else .hold
      on := if demand = .safe then (if v = 0 then false else if v = 1 then true else old.on) else old.on } := by
  cases demand with
  | off | on => rfl
  | safe =>
    by_cases h0 : v = 0
    · simp [Lamp.setSafe, Lamp.drive, safeValueOf, h0]
    · by_cases h1 : v = 1
      · simp [Lamp.setSafe, Lamp.drive, safeValueOf, h1]
      · simp [Lamp.setSafe, Lamp.drive, safeValueOf, h0, h1]

theorem State.lineSet_entryLamp : s.lineSet (.entryLamp b) [(4, v)] = { s with lines := { s.lines with
    entryLamp := s.lines.entryLamp.set b
      ((s.lines.entryLamp.get b).setSafe (safeValueOf v) (entryDemand (s.bridge b))) } } := rfl

theorem State.lineSet_exitLamp : s.lineSet (.exitLamp b) [(4, v)] = { s with lines := { s.lines with
    exitLamp := s.lines.exitLamp.set b
      ((s.lines.exitLamp.get b).setSafe (safeValueOf v) (exitDemand (s.bridge b))) } } := rfl

end

/-- Settles O38, setting by setting: each is taken with what it makes of its line, and each refusal is the field
list's. -/
theorem linesAreReadAndSet : Obligations.LinesAreReadAndSet := by
  refine fun s tag h => ⟨fun id t ht => ?_, fun kg hleast hmost htens => ?_, fun kg hleast hmost => ⟨?_, ?_⟩,
    fun b v hv => ?_, fun id line v ht hv => ?_, fun id line ms ht hms => ?_, fun id es hid => ?_,
    fun id t es e ht he hbad => ?_⟩
  · have hshown := decideLineSet_taken (s := s) (es := []) ht rfl
    rw [State.lineSet_nil] at hshown
    exact exec_taken h (.lineSet id []) hshown rfl
  · exact exec_lineSet_one h rfl (decide_eq_true ⟨hleast, hmost, htens⟩) State.lineSetInput_mass
  · exact exec_lineSet_one h rfl (decide_eq_true ⟨hleast, hmost⟩) State.lineSetInput_mass
  · exact exec_lineSet_one h rfl (decide_eq_true ⟨hleast, hmost⟩) State.lineSetInput_mass
  · intro safe lamp
    have hlamp (old : Lamp) (demand : LampDemand) : old.setSafe (safeValueOf v) demand = lamp old demand :=
      Lamp.setSafe_eq old demand v
    constructor
    · exact exec_lineSet_one h (lineOf_entryLamp b) (decide_eq_true hv) (by rw [State.lineSet_entryLamp, hlamp])
    · exact exec_lineSet_one h (lineOf_exitLamp b) (decide_eq_true hv) (by rw [State.lineSet_exitLamp, hlamp])
  · intro i p set answered
    have hanswered {t : State} (ht' : s.lineSetInput line [(1, v)] = t) : answered t :=
      exec_lineSet_one h ht (decide_eq_true hv) ht'
    have htold : s.lineSetInput line [(1, v)] =
        if p ≠ i.polarity ∧ i.filtered.isSome = true then set.deliverLevel line else set := State.lineSetInput_polarity
    refine ⟨fun hquiet => hanswered (htold.trans ?_), fun hnew hsettled => ?_⟩
    · rcases hquiet with hsame | hunsettled | hpulse
      · exact if_neg fun hchange => hchange.1 hsame
      · exact if_neg (by simp [hunsettled])
      · rw [State.deliverLevel_pulse hpulse, ite_self]
    · rw [if_pos ⟨hnew, Option.isSome_iff_ne_none.mpr hsettled⟩] at htold
      refine ⟨fun b hb => hanswered (htold.trans ?_), fun htr => hanswered (htold.trans ?_)⟩
      · rcases hb with rfl | rfl <;> rfl
      · subst htr
        exact State.deliverLevel_tr
  · intro i set answered
    have hok : settingOk (.input line) 2 ms = true := List.contains_iff_mem.mpr hms
    have htakes {held : Nat} (hheld : i.heldFor = some held) (hle : ms ≤ held) : answered (set.takeLevel line) :=
      exec_lineSet_one h ht hok (State.lineSetInput_filter_takes hheld hle)
    have hwaits (hheld : ∀ held, i.heldFor = some held → held < ms) : answered set :=
      exec_lineSet_one h ht hok (State.lineSetInput_filter_waits hheld)
    refine ⟨fun hf => ?_, fun hf => ?_⟩
    · have hheld : i.heldFor = some i.steady := Input.heldFor_unsettled hf
      exact ⟨htakes hheld, fun hlt => hwaits (by simpa [hheld] using hlt)⟩
    · have hheld : i.heldFor = i.hold := Input.heldFor_settled hf
      refine ⟨fun hnone => hwaits (by simp [hheld, hnone]), fun held hsome => ⟨htakes (hheld.trans hsome), ?_⟩⟩
      intro hlt
      exact hwaits (by simpa [hheld, hsome] using hlt)
  · exact exec_refused h (.lineSet id es) (decideLineSet_noLine (lineOf_bad hid)) rfl
  · exact exec_refused h (.lineSet id es) (decideLineSet_badSetting ht he hbad) rfl

end Sys2Proof.Machine

/-! SUPPORT. Shift profiles and the season: PROFILE LOAD, SEASON OPEN and the SEASON record's completion. -/
namespace Sys2Proof.Machine

open Sys2Proof

section

variable {s : State}

/-! ## PROFILE LOAD (R157, R158) -/

theorem Profile.crossOk_iff {p : Profile} :
    p.crossOk = true ↔ p.minStrokes ≤ p.strokes ∧ p.defaultPol ≤ p.defaultBrix := by
  simp only [Profile.crossOk, Bool.and_eq_true, decide_eq_true_eq]

theorem letterOf_bad {n : Nat} (h : n = 0 ∨ 2 < n) : letterOf n = none := by
  unfold letterOf
  split
  · omega
  · omega
  · rfl

/-- A well-formed load of a shadow turns on the cross-field conditions of its result alone. -/
theorem decideProfileLoad_entries {code : Nat} {l : Letter} {es : List (Nat × Nat)} (hl : letterOf code = some l)
    (hok : entriesOk 1 26 profileFieldOk es = true) :
    let p := es.foldl Profile.setField (s.shift.shadow l)
    decideProfileLoad code es s =
      if p.crossOk then .take { s with shift := s.shift.setShadow l p } (.profile p) else .refuse .badField := by
  simp only [decideProfileLoad, hl, hok, if_true]

theorem decideProfileLoad_badEntries {code : Nat} {l : Letter} {es : List (Nat × Nat)} (hl : letterOf code = some l)
    (hbad : ¬ entriesOk 1 26 profileFieldOk es = true) : decideProfileLoad code es s = .refuse .badField := by
  simp only [decideProfileLoad, hl, if_neg hbad]

theorem decideProfileLoad_noShadow {n : Nat} {es : List (Nat × Nat)} (h : n = 0 ∨ 2 < n) :
    decideProfileLoad n es s = .refuse .badField := by
  simp only [decideProfileLoad, letterOf_bad h]

end

/-- Settles O39: a load of distinct fields in their ranges by `decideProfileLoad_entries` and the cross-field
conditions; the refusals by what the field list or the shadow's number lacks. -/
theorem profilesAreLoadedIntoTheirShadow : Obligations.ProfilesAreLoadedIntoTheirShadow := by
  intro s tag es h hleast hmost hids hfields loaded
  have hok : entriesOk 1 26 profileFieldOk es = true := entriesOk_iff.mpr ⟨hleast, hmost, hids, hfields⟩
  have hloadA := decideProfileLoad_entries (s := s) (code := 1) (l := .a) rfl hok
  have hloadB := decideProfileLoad_entries (s := s) (code := 2) (l := .b) rfl hok
  refine ⟨fun hstrokes hpol => ?_, fun hstrokes hpol => ?_, fun hcross => ?_, fun id v v' => ?_, fun p hp => ?_⟩
  · exact exec_taken h (.profileLoad 1 es) (hloadA.trans (if_pos (Profile.crossOk_iff.mpr ⟨hstrokes, hpol⟩))) rfl
  · exact exec_taken h (.profileLoad 2 es) (hloadB.trans (if_pos (Profile.crossOk_iff.mpr ⟨hstrokes, hpol⟩))) rfl
  · have hbroken : ¬ (loaded s.shift.shadowA).crossOk = true := by
      rw [Profile.crossOk_iff]
      omega
    exact exec_refused h (.profileLoad 1 es) (hloadA.trans (if_neg hbroken)) rfl
  · have htwice : ¬ entriesOk 1 26 profileFieldOk ((id, v) :: (id, v') :: es) = true := by
      rw [entriesOk_iff]
      simp
    exact exec_refused h (.profileLoad 1 _) (decideProfileLoad_badEntries (code := 1) (l := .a) rfl htwice) rfl
  · exact exec_refused h (.profileLoad p es) (decideProfileLoad_noShadow hp) rfl

section

variable {s t u : State}

/-! ## What reservations leave alone (R171, R172) -/

/-- The state `s` with what reservations touch as `t` has it: the store's count and what it judges of it, and the
notices, flags and AL of its alarms. -/
def State.reservedAs (s t : State) : State :=
  { s with
    store := { s.store with reserved := t.store.reserved, state := t.store.state }
    lines := { s.lines with al := t.lines.al }
    link := { s.link with
      notices := t.link.notices, noticeNumber := t.link.noticeNumber, flags := t.link.flags } }

/-- From `s` to `t` only reservations are made and given back, and the store does not fail by them. -/
structure State.OnlyReserves (s t : State) : Prop where
  same : t = s.reservedAs t
  unfailed : s.store.state ≠ .failed → t.store.state ≠ .failed

namespace State.OnlyReserves

theorem trans (h : State.OnlyReserves s t) (k : State.OnlyReserves t u) : State.OnlyReserves s u := by
  have htouched : t.reservedAs u = (s.reservedAs t).reservedAs u := congrArg (State.reservedAs · u) h.same
  exact ⟨k.same.trans htouched, fun hs => k.unfailed (h.unfailed hs)⟩

theorem counted (s : State) (n : Nat) : s.OnlyReserves { s with store := { s.store with reserved := n } } := ⟨rfl, id⟩

theorem raise (f : Flag) : s.OnlyReserves (s.raise f) := ⟨rfl, id⟩

theorem notify (body : NoticeBody) : s.OnlyReserves (s.notify body) := by
  refine ⟨?_, fun h => by rwa [State.notify_store]⟩
  unfold State.notify
  dsimp only
  split
  · rfl
  · split
    · split <;> rfl
    · rfl

theorem judgeStore (s : State) : s.OnlyReserves s.judgeStore := by
  rcases State.judgeStore_cases (s := s) with hj | ⟨next, -, -, -, hnext, hj⟩
  · rw [hj]
    exact ⟨rfl, id⟩
  · have hset : s.OnlyReserves { s with store := { s.store with state := next } } :=
      ⟨rfl, fun _ => by rcases hnext with rfl | rfl <;> exact nofun⟩
    rw [hj]
    dsimp only
    split
    · exact (hset.trans (notify _)).trans (raise _)
    · exact hset.trans (notify _)

theorem reserve (s : State) (k : Nat) : s.OnlyReserves (s.reserve k) :=
  (counted s (s.store.reserved + k)).trans (judgeStore _)

theorem giveBack (s : State) (k : Nat) : s.OnlyReserves (s.giveBack k) :=
  (counted s (s.store.reserved - k)).trans (judgeStore _)

end State.OnlyReserves

/-! ## A lone request at an idle port (R173 to R175) -/

theorem Store.anyRequest_eq_false {x : Store} : x.anyRequest = false ↔
    x.inFlight = none ∧ x.tickets = ⟨none, none, none, none⟩ ∧ x.shared = [] ∧ x.waiting = [] := by
  obtain ⟨-, -, -, -, -, -, -, -, ⟨q1, q2, q3, q4⟩, -, -, -, -⟩ := x
  simp [Store.anyRequest, and_assoc]

/-- The shift profile unit's request, asked for while nothing else is, starts its write at once. -/
theorem State.requestWrite_idle (hstate : s.store.state ≠ .failed) (hidle : s.store.anyRequest = false)
    (body : RecordBody) : s.requestWrite .shiftUnit body = s.beginWrite ⟨.shiftUnit, body⟩ := by
  obtain ⟨hflight, htickets, hshared, hwaiting⟩ := Store.anyRequest_eq_false.mp hidle
  let placed : Store := { s.store with shared := [⟨.shiftUnit, body⟩] }
  have hplace : s.store.place ⟨.shiftUnit, body⟩ = placed := by
    simp [Store.place, hshared, Config.sharedPlaces, placed]
  have hticket : (rotation placed.lastTicket).find? (fun b => (placed.tickets.get b).isSome) = none := by
    rw [List.find?_eq_none]
    intro b _
    cases b <;> simp [placed, htickets, Quad.get]
  have hemptied : ({ placed with shared := [] } : Store) = s.store := by rw [← hshared]
  have hchoose : placed.choose = some (⟨.shiftUnit, body⟩, s.store) := by
    rw [← hemptied]
    simp [Store.choose, hticket, takeFirst, requestClass, Store.moveUp, placed, hwaiting]
  rw [State.requestWrite, hplace, State.startNext, if_neg hstate, if_neg (by simp [placed, hflight]), hchoose]

/-! ## The port's settings at the end of a step (R186, R198) -/

theorem Link.setStream_settings (l : Link) (n : SlotNo) (x : Option Stream) :
    (l.setStream n x).minRun = l.minRun ∧ (l.setStream n x).maxRun = l.maxRun ∧
      (l.setStream n x).receiver = l.receiver := by
  cases n <;> exact ⟨rfl, rfl, rfl⟩

/-- The arbiter's choice is no setting of the port, and no byte received. -/
theorem State.pump_link_settings (s : State) :
    s.pump.link.minRun = s.link.minRun ∧ s.pump.link.maxRun = s.link.maxRun ∧
      s.pump.link.receiver = s.link.receiver := by
  unfold State.pump State.sendReport
  dsimp only
  repeat' split
  all_goals simp [Link.setStream_settings]

/-! ## SEASON OPEN (R165, R166, R197) -/

theorem State.seasonRefusal_none (hstate : s.store.state ≠ .failed) (hmark : s.store.exportMark = s.store.lastSequence)
    (hidle : s.store.anyRequest = false) (howed : s.shift.owed = none) (hchannels : ∀ b, (s.channel b).owed = none)
    (hdeliveries : s.dt.records = []) (hbindings : ∀ b, (s.bridge b).binding = none)
    (hpending : ∀ b, (s.channel b).pending = none) (hsessions : ∀ b, (s.channel b).session = none)
    (hfree : s.store.reserved + 1 ≤ s.free) : s.seasonRefusal = none := by
  have hroom : ¬ s.free < s.store.reserved + 1 := Nat.not_lt.mpr hfree
  simp [State.seasonRefusal, hstate, hmark, hidle, howed, hchannels, hdeliveries, hbindings, Channel.inSeasonUse,
    hpending, hsessions, hroom]

/-- The windows discarded, and window 1 OPEN in shift 1 (R70, R166 step 2). -/
def State.freshWindows (s : State) : State :=
  { s with
    windows := { records := [(1, Window.fresh 1 s.now)], counter := 1, pacing := 0, sumCanePol := 0, sumCaneBrix := 0
                 sumCane := 0 }
    lines := { s.lines with command := none } }

/-- The accounts cleared for a season, the record of the last one owed, and the streams cut (R166, R197). -/
def State.cleanAccounts (s : State) (season : Nat) (body : SeasonBody) : State :=
  { s with
    dt := { s.dt with counter := 0, reserved := 0 }
    feed := []
    growers := Table.mapValues s.growers Grower.newSeason
    shift := { s.shift with
      season := season, number := 1, start := s.now, letter := s.shift.lastLetter, acc := Accumulators.zeros
      owed := some (.season body) }
    link := s.link.cutStreams }

theorem State.OnlyReserves.freshWindows (h : State.OnlyReserves s t) : s.freshWindows.OnlyReserves t.freshWindows :=
  ⟨congrArg State.freshWindows h.same, h.unfailed⟩

theorem State.OnlyReserves.cleanAccounts (h : State.OnlyReserves s t) (season : Nat) (body : SeasonBody) :
    (s.cleanAccounts season body).OnlyReserves (t.cleanAccounts season body) :=
  ⟨congrArg (State.cleanAccounts · season body) h.same, h.unfailed⟩

/-- Beside its windows, a season's start only settles the reservations that they held. -/
theorem State.seasonWindows_onlyReserves (s : State) : s.freshWindows.OnlyReserves s.seasonWindows :=
  (State.OnlyReserves.giveBack s s.unwrittenWindows).freshWindows.trans (State.OnlyReserves.reserve _ 1)

/-- The state as SEASON OPEN leaves it when it asks for its record. -/
def State.seasonBegun (s : State) : State :=
  (s.reserve 1).seasonWindows.cleanAccounts (s.shift.season + 1) s.seasonBody

theorem State.seasonBegun_onlyReserves (s : State) :
    (s.freshWindows.cleanAccounts (s.shift.season + 1) s.seasonBody).OnlyReserves s.seasonBegun :=
  ((State.OnlyReserves.reserve s 1).freshWindows.trans (State.seasonWindows_onlyReserves _)).cleanAccounts _ _

theorem decideSeasonOpen_taken (hnone : s.seasonRefusal = none) (hfits : fits32 (s.shift.season + 1)) :
    decideSeasonOpen s = .take (s.seasonBegun.requestWrite .shiftUnit (.season s.seasonBody))
      (.season (s.shift.season + 1)) := by
  simp only [decideSeasonOpen, hnone, add32_fits hfits]
  rfl

/-- The state in which the port ends a taken SEASON OPEN's step, what reservations touch as `v` has it: the SEASON
record's write in flight, and the reply placed (R166, R175, R189). -/
def State.seasonOpened (s v : State) (tag : Byte) : State :=
  State.placeReply
    (((s.freshWindows.cleanAccounts (s.shift.season + 1) s.seasonBody).reservedAs v).beginWrite
      ⟨.shiftUnit, .season s.seasonBody⟩)
    ⟨0xC3, tag, .ok, .season (s.shift.season + 1)⟩

/-- SEASON OPEN, its tests passed, at a ready port: the port's step from there is one choice of the arbiter. -/
theorem exec_seasonOpen {tag : Byte} (h : s.ready) (hstate : s.store.state ≠ .failed)
    (hidle : s.store.anyRequest = false) (hnone : s.seasonRefusal = none) (hfits : fits32 (s.shift.season + 1)) :
    ∃ v, exec (.seasonOpen tag) s = .next (s.seasonOpened v tag).pump := by
  let v := s.seasonBegun
  have hbegun := s.seasonBegun_onlyReserves
  have hbegunIdle : v.store.anyRequest = false :=
    (congrArg (fun x : State => x.store.anyRequest) hbegun.same).trans hidle
  have hwrite : v.requestWrite .shiftUnit (.season s.seasonBody) = _ :=
    (State.requestWrite_idle (hbegun.unfailed hstate) hbegunIdle _).trans
      (congrArg (State.beginWrite · ⟨.shiftUnit, .season s.seasonBody⟩) hbegun.same)
  have htake := decideSeasonOpen_taken hnone hfits
  rw [hwrite] at htake
  have hexec := exec_taken (tag := tag) (kind := 0xC3) h .seasonOpen htake rfl
  exact ⟨v, hexec.trans (congrArg Host.Outcome.next (State.okReply_of_empty (by exact h.1) _ _ _))⟩

/-! ## The SEASON record completes (R166, R176) -/

theorem exec_writeComplete_season {f : InFlight} {x : SeasonBody} (hlone : s.loneWrite f)
    (hreq : f.request = ⟨.shiftUnit, .season x⟩) : exec .writeComplete s = .next (State.settleLink
      { s with shift := { s.shift with owed := none }, store := s.store.completed f }) := by
  have hseason : (s.recorded f).requesterComplete f.record.sequence f.request = (s.recorded f).seasonComplete := by
    simp only [State.requesterComplete, hreq]
  have hdone := State.completeWrite_lone hlone hseason rfl
  exact congrArg (fun t : State => Host.Outcome.next t.settleLink) hdone

end

/-- Settles O41: the completion by `exec_writeComplete_season`; the request by `exec_seasonOpen`, what it leaves by
`State.seasonBegun_onlyReserves` and the arbiter's touching the link alone. -/
theorem seasonsOpenWithCleanAccounts : Obligations.SeasonsOpenWithCleanAccounts := by
  refine ⟨fun s f x hlone hreq => exec_writeComplete_season hlone hreq, ?_⟩
  intro s tag h hstate hmark hidle howed hchannels hdeliveries hbindings hpending hsessions hfree hfits
  have hnone := State.seasonRefusal_none hstate hmark hidle howed hchannels hdeliveries hbindings hpending hsessions
    hfree
  obtain ⟨v, hexec⟩ := exec_seasonOpen (tag := tag) h hstate hidle hnone hfits
  let p := s.seasonOpened v tag
  obtain ⟨hmin, hmax, hreceiver⟩ := p.pump_link_settings
  have hinput : p.pump.link.input = [] := p.pump_link_input.trans h.1
  refine ⟨{ p with link := p.pump.link }, hexec.trans (congrArg Host.Outcome.next p.pump_only), ?_, rfl, rfl, rfl,
    ⟨rfl, rfl, rfl, rfl, rfl, rfl, rfl, rfl, rfl⟩, ⟨rfl, _, rfl, rfl, rfl⟩, ⟨rfl, rfl, rfl⟩,
    ⟨rfl, rfl, rfl, rfl, rfl⟩, rfl, ⟨hmin, hmax, hreceiver, hinput⟩, fun hsending => ?_⟩
  · exact congrArg (fun x => (⟨x, 0, 0⟩ : DeliveryTable)) hdeliveries
  · rw [p.pump_of_sending hsending]
    exact ⟨rfl, rfl, rfl, rfl⟩

end Sys2Proof.Machine

/-! SUPPORT. The record store's judgement of its state, the arbiter's choice of the next write, the start of a write,
and what a failed verify makes of it. -/
namespace Sys2Proof.Machine

open Sys2Proof

section

variable {s : State}

/-! ## The store judges its state (R171, R172) -/

theorem State.judgeStore_failed (h : s.store.state = .failed) : s.judgeStore = s := if_pos h

theorem State.judgeStore_agrees (h : s.judgedStore = s.store.state) : s.judgeStore = s := by
  change (if _ then s else if s.judgedStore = s.store.state then s else _) = s
  rw [if_pos h, ite_self]

theorem State.judgeStore_changes (hstate : s.store.state ≠ .failed) (h : s.judgedStore ≠ s.store.state) :
    s.judgeStore =
      let told := State.notify { s with store := { s.store with state := s.judgedStore } }
        (.storeAlarm s.judgedStore s.free s.store.reserved)
      if s.judgedStore = .low then told.raise .storeLow else told :=
  (if_neg hstate).trans (if_neg h)

/-- The store's judgement by the state it finds: it enters LOW with its flag, and NORMAL with none. -/
theorem State.judgeStore_byState (s : State) :
    let low := s.free < s.store.reserved + Config.lowThreshold
    (s.store.state = .failed → s.judgeStore = s) ∧
    (low → s.store.state = .low → s.judgeStore = s) ∧
    (¬ low → s.store.state = .normal → s.judgeStore = s) ∧
    (low → s.store.state = .normal → s.judgeStore =
      (State.notify { s with store := { s.store with state := .low } }
        (.storeAlarm .low s.free s.store.reserved)).raise .storeLow) ∧
    (¬ low → s.store.state = .low → s.judgeStore =
      State.notify { s with store := { s.store with state := .normal } }
        (.storeAlarm .normal s.free s.store.reserved)) := by
  intro low
  have hlow (h : low) : s.judgedStore = .low := if_pos h
  have hnormal (h : ¬ low) : s.judgedStore = .normal := if_neg h
  refine ⟨State.judgeStore_failed, fun h hs => ?_, fun h hs => ?_, fun h hs => ?_, fun h hs => ?_⟩
  · exact State.judgeStore_agrees ((hlow h).trans hs.symm)
  · exact State.judgeStore_agrees ((hnormal h).trans hs.symm)
  · rw [State.judgeStore_changes (by simp [hs]) (by simp [hs, hlow h]), hlow h]
    exact if_pos rfl
  · rw [State.judgeStore_changes (by simp [hs]) (by simp [hs, hnormal h]), hnormal h]
    exact if_neg nofun

/-! ## EXPORT MARK (R179) -/

theorem decideExportMark_refused {n : Nat} (h : n < s.store.exportMark ∨ s.store.lastSequence < n) :
    decideExportMark n s = .refuse .badField := if_pos h

theorem decideExportMark_taken {n : Nat} (hmark : s.store.exportMark ≤ n) (hlast : n ≤ s.store.lastSequence) :
    let judged := State.judgeStore { s with store := { s.store with exportMark := n } }
    decideExportMark n s = .take judged (.exported n (Config.accountingCapacity - (s.store.lastSequence - n))
      s.store.reserved judged.store.state) := by
  intro judged
  have hstore : judged.store = { s.store with exportMark := n, state := judged.store.state } := State.judgeStore_store
  have hfree : judged.free = Config.accountingCapacity - (s.store.lastSequence - n) :=
    congrArg (fun x : Store => Config.accountingCapacity - (x.lastSequence - x.exportMark)) hstore
  have hreserved : judged.store.reserved = s.store.reserved := by rw [hstore]
  rw [← hfree, ← hreserved]
  exact if_neg (by omega)

end

/-- Settles O50: the store's judgement by `State.judgeStore_byState`, after a reservation and after EXPORT MARK. -/
theorem reservationsAndExportMarksJudgeTheStore : Obligations.ReservationsAndExportMarksJudgeTheStore := by
  refine ⟨fun s k => ?_, fun s tag n h => ⟨fun hbad => ?_, ?_⟩⟩
  · intro judged
    have hjudged (n : Nat) : judged n (State.judgeStore { s with store := { s.store with reserved := n } }) :=
      State.judgeStore_byState { s with store := { s.store with reserved := n } }
    exact ⟨hjudged (s.store.reserved + k), hjudged (s.store.reserved - k)⟩
  · exact exec_refused h (.exportMark n) (decideExportMark_refused hbad) rfl
  · intro hmark hlast t free low
    have htaken := exec_taken (tag := tag) h (.exportMark n) (decideExportMark_taken hmark hlast) rfl
    obtain ⟨hfailed, hlow, hnormal, -, hrises⟩ := State.judgeStore_byState t
    refine ⟨fun hstays => ?_, fun hhigh hstate => ?_⟩
    · have hjudge : t.judgeStore = t := by
        rcases hstays with hs | ⟨hl, hs⟩ | ⟨hl, hs⟩
        · exact hfailed hs
        · exact hlow hl hs
        · exact hnormal hl hs
      rw [hjudge] at htaken
      exact htaken
    · rw [hrises hhigh hstate, State.notify_store] at htaken
      exact htaken

section

variable {s : State}

/-! ## A request takes its place (R173) -/

/-- Every request but a ticket goes to the shared places or to the waiting line. -/
theorem Store.place_eq {x : Store} {r : WriteRequest} (h : requestClass r.requester ≠ 1) :
    x.place r = if x.shared.length < Config.sharedPlaces then { x with shared := x.shared ++ [r] }
      else { x with waiting := x.waiting ++ [r] } := by
  obtain ⟨q, body⟩ := r
  cases q with
  | bridge b => exact absurd rfl h
  | delivery n => rfl
  | window n => rfl
  | shiftUnit => rfl
  | channel c => rfl
  | session c => rfl

theorem Store.place_shared {x : Store} {r : WriteRequest} (h : requestClass r.requester ≠ 1)
    (hroom : x.shared.length < Config.sharedPlaces) : x.place r = { x with shared := x.shared ++ [r] } :=
  (Store.place_eq h).trans (if_pos hroom)

theorem Store.place_waiting {x : Store} {r : WriteRequest} (h : requestClass r.requester ≠ 1)
    (hfull : Config.sharedPlaces ≤ x.shared.length) : x.place r = { x with waiting := x.waiting ++ [r] } :=
  (Store.place_eq h).trans (if_neg (Nat.not_lt.mpr hfull))

/-! ## The bridges in rotation (R174) -/

/-- How many bridges come before a bridge in the rotation that begins after the one last started. -/
def rotationPlace (last : Option BridgeNo) (b : BridgeNo) : Nat :=
  (bridgeCode b + 3 - (last.map bridgeCode).getD 0) % 4

theorem mem_rotation (last : Option BridgeNo) (b : BridgeNo) : b ∈ rotation last := by
  rcases last with _ | _ | _ | _ | _ <;> cases b <;> decide

theorem rotation_ascends (last : Option BridgeNo) :
    (rotation last).Pairwise fun b c => rotationPlace last b < rotationPlace last c := by
  rcases last with _ | _ | _ | _ | _ <;> decide

/-- The first in rotation that meets a test is the one before which, by its place, none meets it. -/
theorem rotation_find?_eq_some {last : Option BridgeNo} {p : BridgeNo → Bool} {b : BridgeNo} (hb : p b = true)
    (hfirst : ∀ c, rotationPlace last c < rotationPlace last b → p c = false) :
    (rotation last).find? p = some b := by
  obtain ⟨before, after, hsplit⟩ := List.append_of_mem (mem_rotation last b)
  have hascends := rotation_ascends last
  rw [hsplit, List.pairwise_append] at hascends
  obtain ⟨-, -, hbefore⟩ := hascends
  refine List.find?_eq_some_iff_append.mpr ⟨hb, before, after, hsplit, fun c hc => ?_⟩
  simp [hfirst c (hbefore c hc b (by simp))]

/-! ## The arbiter's choice (R174) -/

theorem takeFirst_append {α : Type} {p : α → Bool} {older newer : List α} {a : α} (ha : p a = true)
    (hnone : ∀ x ∈ older, p x = false) : takeFirst p (older ++ a :: newer) = some (a, older ++ newer) := by
  induction older with
  | nil => simp [takeFirst, ha]
  | cons x older ih =>
    obtain ⟨hx, holder⟩ := List.forall_mem_cons.mp hnone
    simp [takeFirst, hx, ih holder]

theorem takeFirst_eq_none {α : Type} {p : α → Bool} {as : List α} (hnone : ∀ x ∈ as, p x = false) :
    takeFirst p as = none := by
  induction as with
  | nil => rfl
  | cons x as ih =>
    obtain ⟨hx, has⟩ := List.forall_mem_cons.mp hnone
    simp [takeFirst, hx, ih has]

theorem Quad.eq_nones_iff {α : Type} {q : Quad (Option α)} :
    q = ⟨none, none, none, none⟩ ↔ ∀ b, q.get b = none := by
  refine ⟨fun h b => by rw [h]; cases b <;> rfl, fun h => ?_⟩
  obtain ⟨q1, q2, q3, q4⟩ := q
  obtain ⟨rfl, rfl, rfl, rfl⟩ : q1 = none ∧ q2 = none ∧ q3 = none ∧ q4 = none := ⟨h .b1, h .b2, h .b3, h .b4⟩
  rfl

theorem Store.choose_ticket {x : Store} {b : BridgeNo} {r : WriteRequest} (hb : x.tickets.get b = some r)
    (hfirst : ∀ c, rotationPlace x.lastTicket c < rotationPlace x.lastTicket b → x.tickets.get c = none) :
    x.choose = some (r, { x with tickets := x.tickets.set b none, lastTicket := some b }) := by
  have hfind : (rotation x.lastTicket).find? (fun c => (x.tickets.get c).isSome) = some b :=
    rotation_find?_eq_some (by simp [hb]) fun c hc => by simp [hfirst c hc]
  simp only [Store.choose, hfind, hb]

/-- With no ticket in its place, no bridge's turn comes. -/
theorem Store.rotation_passes {x : Store} (hnone : x.tickets = ⟨none, none, none, none⟩) :
    (rotation x.lastTicket).find? (fun b => (x.tickets.get b).isSome) = none :=
  List.find?_eq_none.mpr fun b _ => by simp [Quad.eq_nones_iff.mp hnone b]

theorem Store.choose_class2 {x : Store} {older newer : List WriteRequest} {r : WriteRequest}
    (hnone : x.tickets = ⟨none, none, none, none⟩) (hshared : x.shared = older ++ r :: newer)
    (hr : requestClass r.requester = 2) (holder : ∀ q ∈ older, requestClass q.requester ≠ 2) :
    x.choose = some (r, Store.moveUp { x with shared := older ++ newer }) := by
  have htake : takeFirst (fun q : WriteRequest => requestClass q.requester == 2) x.shared =
      some (r, older ++ newer) := by
    rw [hshared, takeFirst_append (by simp [hr]) fun q hq => by simp [holder q hq]]
  simp only [Store.choose, Store.rotation_passes hnone, htake]

theorem Store.choose_oldest {x : Store} {newer : List WriteRequest} {r : WriteRequest}
    (hnone : x.tickets = ⟨none, none, none, none⟩) (hshared : x.shared = r :: newer)
    (hclass : ∀ q ∈ r :: newer, requestClass q.requester ≠ 2) :
    x.choose = some (r, Store.moveUp { x with shared := newer }) := by
  have htake : takeFirst (fun q : WriteRequest => requestClass q.requester == 2) (r :: newer) = none :=
    takeFirst_eq_none fun q hq => by simp [hclass q hq]
  simp only [Store.choose, Store.rotation_passes hnone, hshared, htake]

/-- A sole shared request is chosen whatever its class. -/
theorem Store.choose_sole {x : Store} {r : WriteRequest} (hnone : x.tickets = ⟨none, none, none, none⟩)
    (hshared : x.shared = [r]) : x.choose = some (r, Store.moveUp { x with shared := [] }) := by
  by_cases hr : requestClass r.requester = 2
  · exact Store.choose_class2 (older := []) hnone hshared hr (by simp)
  · exact Store.choose_oldest hnone hshared (by simpa using hr)

theorem Store.moveUp_of_nothing_waiting {x : Store} (h : x.waiting = []) : x.moveUp = x := by
  rw [Store.moveUp, h, ite_self]

/-! ## The next write starts (R174) -/

theorem State.startNext_stopped (h : s.store.state = .failed) : s.startNext = s := if_pos h

theorem State.startNext_chosen {r : WriteRequest} {x : Store} (hstate : s.store.state ≠ .failed)
    (hflight : s.store.inFlight = none) (h : s.store.choose = some (r, x)) :
    s.startNext = State.beginWrite { s with store := x } r := by
  rw [State.startNext, if_neg hstate, if_neg (by simp [hflight]), h]

/-- A ticket asked for at an idle port with no other ticket starts at once. -/
theorem State.requestWrite_ticket {b : BridgeNo} (hstate : s.store.state ≠ .failed) (hflight : s.store.inFlight = none)
    (htickets : s.store.tickets = ⟨none, none, none, none⟩) (body : RecordBody) :
    s.requestWrite (.bridge b) body =
      State.beginWrite { s with store := { s.store with lastTicket := some b } } ⟨.bridge b, body⟩ := by
  have hback : (s.store.tickets.set b (some ⟨.bridge b, body⟩)).set b none = s.store.tickets := by
    rw [htickets]; cases b <;> rfl
  have hchoose : (s.store.place ⟨.bridge b, body⟩).choose =
      some (⟨.bridge b, body⟩, { s.store with lastTicket := some b }) := by
    refine (Store.choose_ticket (b := b) (Quad.get_set _ _ _) fun c hc => ?_).trans ?_
    · have hne : c ≠ b := fun heq => absurd hc (by simp [heq])
      exact (Quad.get_set_ne _ _ hne).trans (Quad.eq_nones_iff.mp htickets c)
    · exact congrArg (fun q => some (_, { s.store with tickets := q, lastTicket := some b })) hback
  exact State.startNext_chosen (s := { s with store := s.store.place ⟨.bridge b, body⟩ }) hstate hflight hchoose

/-- A request of another class asked for while nothing else is starts its write at once. -/
theorem State.requestWrite_alone {q : Requester} (hclass : requestClass q ≠ 1) (hstate : s.store.state ≠ .failed)
    (hflight : s.store.inFlight = none) (htickets : s.store.tickets = ⟨none, none, none, none⟩)
    (hshared : s.store.shared = []) (hwaiting : s.store.waiting = []) (body : RecordBody) :
    s.requestWrite q body = s.beginWrite ⟨q, body⟩ := by
  have hplace : s.store.place ⟨q, body⟩ = { s.store with shared := [⟨q, body⟩] } := by
    rw [Store.place_shared hclass (by simp [hshared, Config.sharedPlaces]), hshared]
    rfl
  have hempty : Store.moveUp { s.store with shared := [] } = s.store := by
    refine (Store.moveUp_of_nothing_waiting (x := { s.store with shared := [] }) hwaiting).trans ?_
    rw [← hshared]
  have hchoose := Store.choose_sole (x := { s.store with shared := [⟨q, body⟩] }) htickets rfl
  rw [hempty, ← hplace] at hchoose
  refine State.startNext_chosen (s := { s with store := s.store.place ⟨q, body⟩ }) ?_ ?_ hchoose
  · rwa [hplace]
  · rwa [hplace]

/-! ## What a write takes (R63, R168, R175) -/

theorem nextGood_good {bad : List Nat} {at_ : Nat} (h : (at_ + 1) % Config.slotCount ∉ bad) (fuel : Nat) :
    nextGood bad fuel at_ = (at_ + 1) % Config.slotCount := by
  cases fuel with
  | zero => rfl
  | succ fuel => simp [nextGood, h]

theorem nextGood_skips {bad : List Nat} {at_ : Nat} (h : (at_ + 1) % Config.slotCount ∈ bad) (fuel : Nat) :
    nextGood bad (fuel + 1) at_ = nextGood bad fuel ((at_ + 1) % Config.slotCount) := by
  simp [nextGood, h]

theorem State.bodyAtStart_window {n : Nat} {v : Window} (h : s.window? n = some v) (w : Window) :
    s.bodyAtStart (.window n w) = .window n v := by
  simp [State.bodyAtStart, h]

theorem State.bodyAtStart_other {body : RecordBody} (h : ∀ n w, body ≠ .window n w) : s.bodyAtStart body = body := by
  cases body with
  | window n w => exact absurd rfl (h n w)
  | gross t => rfl
  | tare t => rfl
  | void v => rfl
  | settle b => rfl
  | shift b => rfl
  | season b => rfl
  | config b => rfl
  | cal b => rfl

/-- A record under its check (R205). -/
def StoredRecord.checked (x : StoredRecord) : StoredRecord := { x with check := recordCheck x }

/-- The check does not cover itself: taken again over the record under its check, it comes out the same. -/
theorem StoredRecord.checked_check (x : StoredRecord) : x.checked.check = recordCheck x.checked := by
  simp only [StoredRecord.checked, recordCheck]

/-- The write that a request starts (R175). -/
def State.flightOf (s : State) (r : WriteRequest) : InFlight :=
  let body := s.bodyAtStart r.body
  { request := ⟨r.requester, body⟩, slot := s.store.nextSlot s.store.lastSlot
    record := StoredRecord.checked
      ⟨add32 s.store.lastSequence 1, recordKind body, s.clock.reading, recordBodyBytes body, 0⟩
    second := false }

theorem State.beginWrite_eq (r : WriteRequest) : s.beginWrite r = { s with store := { s.store with
    slots := s.store.slots.drop (s.flightOf r).slot, inFlight := some (s.flightOf r) } } := rfl

end

/-- Settles O56: a request's place by `Store.place_shared` and `Store.place_waiting`, the choice by `Store.choose`'s
cases, the write by `State.beginWrite_eq`, its slot by `nextGood_good` and `nextGood_skips`. -/
theorem writesStartByClassAndRotation : Obligations.WritesStartByClassAndRotation := by
  refine ⟨fun s body => ⟨fun b => rfl, fun q hq => ⟨fun hroom => ?_, fun hfull => ?_⟩, ?_⟩, fun s hbusy => ?_, ?_, ?_⟩
  · rw [State.requestWrite, Store.place_shared hq hroom]
  · rw [State.requestWrite, Store.place_waiting hq hfull]
  · intro hstate hflight htickets hshared hwaiting
    exact ⟨fun b => State.requestWrite_ticket hstate hflight htickets body,
      fun q hq => State.requestWrite_alone hq hstate hflight htickets hshared hwaiting body⟩
  · rcases hbusy with hfailed | hwriting
    · exact State.startNext_stopped hfailed
    · exact State.startNext_writing hwriting
  · intro s hstate hflight last place freed
    have hfreed {places : List WriteRequest} (h : places.length < 8) :
        Store.moveUp { s.store with shared := places } = freed places := if_pos h
    refine ⟨fun b r hb hfirst => ?_, fun hget => ?_⟩
    · exact State.startNext_chosen hstate hflight (Store.choose_ticket hb hfirst)
    have hnone := Quad.eq_nones_iff.mpr hget
    refine ⟨?_, ?_, fun hshared => State.startNext_nothing (Store.choose_empty hnone hshared)⟩
    · intro older r newer hshared hroom hr holder
      rw [← hfreed (by rwa [List.length_append])]
      exact State.startNext_chosen hstate hflight (Store.choose_class2 hnone hshared hr holder)
    · intro r newer hshared hroom hclass
      rw [← hfreed hroom]
      exact State.startNext_chosen hstate hflight (Store.choose_oldest hnone hshared hclass)
  · intro s r hfits
    refine ⟨s.flightOf r, s.beginWrite_eq r, add32_fits hfits, rfl, StoredRecord.checked_check _, rfl, rfl,
      State.bodyAtStart_other, fun n w v hbody hv => ?_, fun hgood => nextGood_good hgood _, fun hbad hone => ?_⟩
    · exact (congrArg s.bodyAtStart hbody).trans (State.bodyAtStart_window hv w)
    · change nextGood s.store.badSlots s.store.badSlots.length s.store.lastSlot = _
      rw [hone]
      exact nextGood_skips hbad 0

section

variable {s : State} {f : InFlight}

/-! ## A failed verify (R172, R177) -/

theorem State.failVerify_first (hstate : s.store.state ≠ .failed) (hflight : s.store.inFlight = some f)
    (hfirst : f.second = false) :
    s.failVerify = { s with store := { s.store with inFlight := some { f with second := true } } } := by
  simp [State.failVerify, hstate, hflight, hfirst]

theorem State.failVerify_moves (hstate : s.store.state ≠ .failed) (hflight : s.store.inFlight = some f)
    (hsecond : f.second = true) (hroom : s.store.badSlots.length < Config.badSlotCapacity) :
    let marked := s.markBad f.slot
    let slot := marked.store.nextSlot f.slot
    s.failVerify = { marked with store := { marked.store with
      slots := marked.store.slots.drop slot, inFlight := some { f with slot := slot, second := false } } } := by
  simp [State.failVerify, hstate, hflight, hsecond, hroom]

theorem State.failVerify_fails (hstate : s.store.state ≠ .failed) (hflight : s.store.inFlight = some f)
    (hsecond : f.second = true) (hfull : Config.badSlotCapacity ≤ s.store.badSlots.length) :
    s.failVerify = s.failStore := by
  simp [State.failVerify, hstate, hflight, hsecond, Nat.not_lt.mpr hfull]

theorem exec_verifyFailure {t : State} (h : s.failVerify = t) : exec .verifyFailure s = .next t.settleLink :=
  congrArg (fun u : State => Host.Outcome.next u.settleLink) h

end

/-- Settles O57, by the three outcomes of `State.failVerify`. -/
theorem failedVerifiesMoveTheWrite : Obligations.FailedVerifiesMoveTheWrite := by
  intro s f hstate hflight
  refine ⟨fun hfirst => ?_, fun hsecond hroom => ?_, fun hsecond hfull => ?_⟩
  · exact exec_verifyFailure (State.failVerify_first hstate hflight hfirst)
  · exact exec_verifyFailure (State.failVerify_moves hstate hflight hsecond hroom)
  · exact exec_verifyFailure (State.failVerify_fails hstate hflight hsecond hfull)

end Sys2Proof.Machine

/-! SUPPORT. What the owners leave of the mill link: an operation of an owner makes notices and raises flags, and writes
nothing else of the port. -/
namespace Sys2Proof.Machine

open Sys2Proof

section

variable (s : State)

/-! ## Operations that do not touch the link -/

@[simp] theorem State.samplerTest_link : s.samplerTest.link = s.link := by
  unfold State.samplerTest; dsimp only; split <;> rfl

@[simp] theorem State.strokeEdge_link : s.strokeEdge.link = s.link := by
  unfold State.strokeEdge; split
  · rfl
  · exact State.samplerTest_link _

@[simp] theorem State.handOver_link (n : Nat) : (s.handOver n).link = s.link := by
  unfold State.handOver; repeat' split
  all_goals simp

@[simp] theorem State.settleTest_link (n : Nat) : (s.settleTest n).link = s.link := by
  unfold State.settleTest; repeat' split
  all_goals simp

@[simp] theorem State.debits_link (w : Nat) (ns : List Nat) :
    ∀ (kg : Nat) (s : State), (State.debits w ns kg s).2.link = s.link := by
  induction ns with
  | nil => exact fun _ _ => rfl
  | cons n rest ih =>
    intro kg s
    unfold State.debits
    split
    · rfl
    · split
      · exact ih _ _
      · extract_lets remainder
        split
        · rfl
        · exact (ih _ _).trans (State.settleTest_link _ n)

@[simp] theorem State.net_link (n : Nat) (x : Netting) : (s.net n x).link = s.link := by
  unfold State.net; dsimp only; repeat' split
  all_goals rfl

@[simp] theorem State.ceased_link (b : BridgeNo) (cause : LockCause) : (s.ceased b cause).link = s.link := by
  unfold State.ceased; repeat' split
  all_goals rfl

@[simp] theorem State.setRange_link (b : BridgeNo) (k : RangeKind) (v : Bool) : (s.setRange b k v).link = s.link := by
  unfold State.setRange; dsimp only; repeat' split
  all_goals simp

@[simp] theorem State.emptyMean_link (b : BridgeNo) : (s.emptyMean b).link = s.link := by
  simp [State.emptyMean, State.endPeriod]

@[simp] theorem State.judgePresence_link (b : BridgeNo) : (s.judgePresence b).link = s.link := by
  unfold State.judgePresence; repeat' split
  all_goals rfl

@[simp] theorem State.zeroMinute_link (b : BridgeNo) : (s.zeroMinute b).link = s.link := by
  unfold State.zeroMinute; repeat' split
  all_goals rfl

@[simp] theorem State.captureTest_link (b : BridgeNo) (reading : Int) : (s.captureTest b reading).link = s.link := by
  unfold State.captureTest State.grossCapture; dsimp only; repeat' split
  all_goals simp

@[simp] theorem State.deliverLevel_link (line : InputLine) : (s.deliverLevel line).link = s.link := by
  unfold State.deliverLevel; repeat' split
  all_goals simp

@[simp] theorem State.setInputSettings_link (line : InputLine) (es : List (Nat × Nat)) :
    (s.setInputSettings line es).link = s.link := by
  unfold State.setInputSettings; dsimp only; repeat' split
  all_goals rfl

end

/-! ## Notices and flags alone -/

/-- The link but for its notices and its flags: what only the port's own operations write. -/
def Link.port (l : Link) : Link := { l with notices := [], noticeNumber := 0, flags := Attention.clear }

/-- On the way from one state to another the link was written by notices made and flags raised or cleared alone, and the
notice queue kept within its places (R191, R192, R200). -/
structure TellsOnly (r s : State) : Prop where
  port : s.link.port = r.link.port
  queue : r.link.notices.length ≤ Config.noticeCapacity → s.link.notices.length ≤ Config.noticeCapacity

/-- What `takeFirst` takes out is one element of the list. -/
theorem takeFirst_eq_some {α : Type} {p : α → Bool} {as rest : List α} {a : α} (h : takeFirst p as = some (a, rest)) :
    ∃ older newer, as = older ++ a :: newer ∧ rest = older ++ newer ∧ p a = true ∧ ∀ x ∈ older, p x = false := by
  induction as generalizing rest with
  | nil => cases h
  | cons b as ih =>
    unfold takeFirst at h
    split at h
    · next hb =>
      obtain ⟨rfl, rfl⟩ := Prod.mk.inj (Option.some.inj h)
      exact ⟨[], as, rfl, rfl, hb, nofun⟩
    · next hb =>
      split at h
      · cases h
      · next x rest' hrest =>
        obtain ⟨rfl, rfl⟩ := Prod.mk.inj (Option.some.inj h)
        obtain ⟨older, newer, rfl, rfl, ha, holder⟩ := ih hrest
        exact ⟨b :: older, newer, rfl, rfl, ha, List.forall_mem_cons.mpr ⟨by simpa using hb, holder⟩⟩

namespace TellsOnly

theorem refl (s : State) : TellsOnly s s := ⟨rfl, id⟩

section

variable {r s t : State} (h : TellsOnly r s)

include h

theorem congr (ht : t.link = s.link) : TellsOnly r t := ⟨by rw [ht]; exact h.port, by rw [ht]; exact h.queue⟩

theorem ite {c : Prop} [Decidable c] (h' : TellsOnly r t) : TellsOnly r (if c then s else t) := by
  split
  · exact h
  · exact h'

theorem foldl {α : Type} {f : State → α → State} (hf : ∀ {u} a, TellsOnly r u → TellsOnly r (f u a)) (l : List α) :
    TellsOnly r (l.foldl f s) :=
  List.foldlRecOn (motive := TellsOnly r) l f h fun _ hu a _ => hf a hu

theorem setFlags (a : Attention) : TellsOnly r (s.setFlags a) := ⟨h.port, h.queue⟩

theorem raise (f : Flag) : TellsOnly r (s.raise f) := h.setFlags _

/-- A notice finds room, or takes the place of one that is dropped, or is dropped itself (R192). -/
theorem notify (body : NoticeBody) : TellsOnly r (s.notify body) := by
  unfold State.notify
  extract_lets n link s₁
  have h₁ : TellsOnly r s₁ := ⟨h.port, h.queue⟩
  split
  · next hroom => exact ⟨h.port, fun _ => by simpa using hroom⟩
  · split
    · split
      · next hfirst =>
        obtain ⟨older, newer, hqueue, rfl, -, -⟩ := takeFirst_eq_some hfirst
        have hfits (hr : r.link.notices.length ≤ Config.noticeCapacity) :
            (older ++ newer ++ [(⟨n, body⟩ : Notice)]).length ≤ Config.noticeCapacity := by
          have hlength := h₁.queue hr
          rw [hqueue] at hlength
          simp only [List.length_append, List.length_cons, List.length_nil] at hlength ⊢
          omega
        exact raise (by exact ⟨h.port, hfits⟩) _
      · exact h₁.raise _
    · exact h₁.raise _

theorem modBridge (b : BridgeNo) (f : Bridge → Bridge) : TellsOnly r (s.modBridge b f) := h.congr rfl

theorem modChannel (b : BridgeNo) (f : Channel → Channel) : TellsOnly r (s.modChannel b f) := h.congr rfl

theorem modDelivery (n : Nat) (f : Delivery → Delivery) : TellsOnly r (s.modDelivery n f) := h.congr rfl

theorem modWindow (n : Nat) (f : Window → Window) : TellsOnly r (s.modWindow n f) := h.congr rfl

theorem requestWrite (q : Requester) (body : RecordBody) : TellsOnly r (s.requestWrite q body) := h.congr (by simp)

/-! ### The store -/

theorem judgeStore : TellsOnly r s.judgeStore := by
  rcases State.judgeStore_cases (s := s) with hj | ⟨next, -, -, -, -, hj⟩
  · rw [hj]; exact h
  · rw [hj]
    have hn : TellsOnly r { s with store := { s.store with state := next } } := h.congr rfl
    exact ((hn.notify _).raise _).ite (hn.notify _)

theorem reserve (k : Nat) : TellsOnly r (s.reserve k) := judgeStore (h.congr (by rfl))

theorem giveBack (k : Nat) : TellsOnly r (s.giveBack k) := judgeStore (h.congr (by rfl))

theorem failVerify : TellsOnly r s.failVerify := by
  unfold State.failVerify
  split
  · exact h
  · split
    · exact h
    · extract_lets _ s₁ slot
      have h₁ : TellsOnly r s₁ := raise (h.congr (by rfl)) _
      have hfailed : TellsOnly r s.failStore := raise (notify (h.congr (by rfl)) _) _
      exact ite (h.congr (by rfl)) (ite (h₁.congr (by rfl)) hfailed)

/-! ### Windows and the sampler -/

theorem voidWindow (n : Nat) (f : Window → Window) : TellsOnly r (s.voidWindow n f) := h.congr (by simp)

theorem closeWindow (shift : Nat) : TellsOnly r (s.closeWindow shift) := by
  unfold State.closeWindow
  extract_lets n time
  split
  · exact h
  · extract_lets s₁ s₂ s₃
    have h₁ : TellsOnly r s₁ := (h.voidWindow _ _).ite (h.modWindow _ _)
    have h₂ : TellsOnly r s₂ := reserve (h₁.congr (by rfl)) 1
    have h₃ : TellsOnly r s₃ := h₂.congr (by rfl)
    split
    · exact h₃.notify _
    · exact h₃

theorem extendWindow : TellsOnly r s.extendWindow := by
  unfold State.extendWindow
  split
  · exact h
  · exact h.ite ((h.modWindow _ _).raise _)

theorem triggerClose (shift : Nat) : TellsOnly r (s.triggerClose shift) := (h.closeWindow shift).ite h.extendWindow

theorem closeRetest : TellsOnly r s.closeRetest := (h.closeWindow _).ite h

theorem targetTest : TellsOnly r s.targetTest := by
  refine h.closeRetest.ite ?_
  split
  · exact (h.triggerClose _).ite h
  · exact h

theorem durationTest : TellsOnly r s.durationTest := by
  refine h.closeRetest.ite ?_
  split
  · exact (h.triggerClose _).ite h
  · exact h

theorem strokeMissed (n : Nat) : TellsOnly r (s.strokeMissed n) := by
  have hr : TellsOnly r (s.raise .samplerMiss) := h.raise _
  unfold State.strokeMissed
  extract_lets s₁
  split
  · exact hr
  · split
    · exact hr.modWindow _ _
    · exact (hr.voidWindow _ _).ite (hr.modWindow _ _)
    · exact hr
    · exact hr

theorem confirmExpired : TellsOnly r s.confirmExpired := by
  unfold State.confirmExpired
  split
  · exact h
  · exact (strokeMissed (s := s.endCommand) (h.congr (by rfl)) _).congr (State.samplerTest_link _)

theorem expireWindow (n : Nat) : TellsOnly r (s.expireWindow n) := by
  unfold State.expireWindow
  split
  · exact h
  · exact ((h.raise _).voidWindow _ _).ite h

theorem releaseTest (n : Nat) : TellsOnly r (s.releaseTest n) := by
  unfold State.releaseTest
  split
  · exact h
  · exact ite (closeRetest (h.congr (by rfl))) h

/-! ### Settlement, the feed and the deliveries -/

theorem settleComplete (sequence : Nat) (b : SettleBody) : TellsOnly r (s.settleComplete sequence b) := by
  rw [State.settleComplete_eq, State.posted_eq]
  exact notify (foldl (h.congr (by rfl)) (fun n hu => hu.releaseTest n) _) _

theorem canePulse (kg : Nat) : TellsOnly r (s.canePulse kg) := by
  unfold State.canePulse
  extract_lets w s₁ d s₂ s₃
  have hd : TellsOnly r d.2 := h.congr (State.debits_link _ _ _ _)
  have h₂ : TellsOnly r s₂ := hd.ite (raise (hd.congr (by rfl)) _)
  exact targetTest (h₂.congr (State.samplerTest_link _))

theorem tareComplete (sequence : Nat) (x : TareTicket) : TellsOnly r (s.tareComplete sequence x) := by
  unfold State.tareComplete
  split
  · exact (h.modDelivery _ _).notify _
  · exact notify (h.congr (by simp)) _

theorem storedComplete (sequence : Nat) (x : TareTicket) : TellsOnly r (s.storedComplete sequence x) := by
  unfold State.storedComplete
  split
  · exact h
  · exact notify (h.congr (by simp)) _

/-! ### Bridges -/

theorem setZero (b : BridgeNo) (zero : Int) : TellsOnly r (s.setZero b zero) := h.congr rfl

theorem emptyMean (b : BridgeNo) : TellsOnly r (s.emptyMean b) := h.congr (s.emptyMean_link b)

theorem ceased (b : BridgeNo) (cause : LockCause) : TellsOnly r (s.ceased b cause) := h.congr (s.ceased_link b cause)

theorem judgePresence (b : BridgeNo) : TellsOnly r (s.judgePresence b) := h.congr (s.judgePresence_link b)

theorem enterLocked (b : BridgeNo) (cause : LockCause) (x : Option Binding) : TellsOnly r (s.enterLocked b cause x) :=
  ((h.modBridge _ _).notify _).raise _

theorem discardBinding (b : BridgeNo) : TellsOnly r (s.discardBinding b) := by
  unfold State.discardBinding
  split
  · exact h
  · extract_lets s₁
    have h₁ : TellsOnly r s₁ := h.modBridge _ _
    split
    · exact (h₁.giveBack 2).congr rfl
    · exact h₁.giveBack 1

theorem arise (b : BridgeNo) (cause : LockCause) : TellsOnly r (s.arise b cause) := by
  unfold State.arise
  split
  · exact h.enterLocked _ _ _
  · exact h.enterLocked _ _ _
  · exact h.enterLocked _ _ _
  · exact (h.discardBinding _).enterLocked _ _ _
  · exact h.modBridge _ _
  · exact h
  · exact h

theorem applyConfig (b : BridgeNo) (wasHeld : Bool) : TellsOnly r (s.applyConfig b wasHeld) := by
  unfold State.applyConfig
  split
  · exact h
  · extract_lets old new nominal s₁ s₂ s₃ s₄ body s₅ s₆ s₇ s₈ s₉
    have h₁ : TellsOnly r s₁ := h.modChannel _ _
    have h₂ : TellsOnly r s₂ := (h₁.setZero _ _).ite h₁
    have h₃ : TellsOnly r s₃ := (h₂.emptyMean _).ite h₂
    have h₅ : TellsOnly r s₅ := h₃.congr (by rfl)
    have h₇ : TellsOnly r s₇ := (h₅.requestWrite _ _).notify _
    have h₈ : TellsOnly r s₈ := (h₇.ceased _ _).ite h₇
    have h₉ : TellsOnly r s₉ := (h₈.enterLocked _ _ _).ite h₈
    exact h₉.judgePresence _

theorem goIdle (b : BridgeNo) : TellsOnly r (s.goIdle b) := by
  unfold State.goIdle
  extract_lets s₁
  have h₁ : TellsOnly r s₁ := h.modBridge _ _
  refine h₁.ite ?_
  split
  · exact (h₁.applyConfig _ _).ite h₁
  · exact h₁

theorem judgeAbsent (b : BridgeNo) : TellsOnly r (s.judgeAbsent b) := by
  unfold State.judgeAbsent
  extract_lets s₁
  have h₁ : TellsOnly r s₁ := h.congr rfl
  split
  · exact h₁.goIdle _
  · exact h₁.goIdle _
  all_goals exact h₁

theorem zeroCheck (b : BridgeNo) (reading count : Int) : TellsOnly r (s.zeroCheck b reading count) :=
  ite (ite (h.congr (by rfl)) (h.enterLocked _ _ _)) h

theorem leaveCapture (b : BridgeNo) : TellsOnly r (s.leaveCapture b) := by
  unfold State.leaveCapture
  split
  · exact h.enterLocked _ _ _
  · exact ite (h.modBridge _ _) ((h.modBridge _ _).goIdle _)

theorem bindExpired (b : BridgeNo) : TellsOnly r (s.bindExpired b) := by
  unfold State.bindExpired
  split
  · exact ((h.discardBinding _).notify _).goIdle _
  · exact h

theorem persistenceExpired (b : BridgeNo) (k : RangeKind) : TellsOnly r (s.persistenceExpired b k) := by
  unfold State.persistenceExpired
  split
  · exact (h.modBridge _ _).arise _ _
  · exact h
  · exact h

/-! ### Channels -/

theorem endSession (b : BridgeNo) : TellsOnly r (s.endSession b) := by
  unfold State.endSession
  extract_lets s₁ s₂
  have h₂ : TellsOnly r s₂ := ((h.modChannel _ _).giveBack _).modBridge _ _
  split
  · exact h₂.enterLocked _ _ _
  · exact h₂.goIdle _
  · exact h₂.goIdle _

theorem stepReading (b : BridgeNo) (count : Int) : TellsOnly r (s.stepReading b count) := by
  unfold State.stepReading
  repeat' split
  · exact h
  · exact h
  · exact (h.modChannel _ _).notify _
  · exact (h.modChannel _ _).notify _

theorem stepTimeout (b : BridgeNo) : TellsOnly r (s.stepTimeout b) := by
  unfold State.stepTimeout
  split
  · exact h
  · split
    · exact h
    · exact (h.modChannel _ _).notify _

theorem sessionTimeout (b : BridgeNo) : TellsOnly r (s.sessionTimeout b) := by
  unfold State.sessionTimeout
  split
  · exact h
  · exact ((h.endSession _).notify _).ite h

theorem sessionComplete (b : BridgeNo) (body : CalBody) : TellsOnly r (s.sessionComplete b body) := by
  unfold State.sessionComplete
  extract_lets wireOff s₁ s₂ s₃
  have h₃ : TellsOnly r s₃ := (goIdle (h.congr (by rfl)) _).notify _
  exact (h₃.arise _ _).ite h₃

theorem wireOffBridge (b : BridgeNo) : TellsOnly r (s.wireOffBridge b) := by
  refine ite (ite (h.modChannel _ _) ?_) (h.arise _ _)
  have hw : TellsOnly r { s with store := s.store.withdraw b } := h.congr (by rfl)
  exact ((((hw.modChannel _ _).giveBack _).notify _).modBridge _ _).enterLocked _ _ _

theorem raiseWireOff (b : BridgeNo) : TellsOnly r (s.raiseWireOff b) :=
  (((h.modChannel _ _).emptyMean _).wireOffBridge _).judgePresence _

theorem clearWireOff (b : BridgeNo) : TellsOnly r (s.clearWireOff b) :=
  ((h.modChannel _ _).ceased _ _).judgePresence _

theorem stableEnding (b : BridgeNo) (reading count : Int) : TellsOnly r (s.stableEnding b reading count) := by
  unfold State.stableEnding
  split
  · exact h.stepReading _ _
  · exact h.congr (State.captureTest_link _ _ _)
  · exact h.zeroCheck _ _ _
  all_goals exact h

theorem stability (b : BridgeNo) (reading count : Int) : TellsOnly r (s.stability b reading count) := by
  unfold State.stability
  extract_lets c
  split
  · exact h.modChannel _ _
  · exact (h.modChannel _ _).ite (((h.modChannel _ _).stableEnding _ _ _).ite (h.modChannel _ _))

theorem takeReading (b : BridgeNo) (filtered : Int) : TellsOnly r (s.takeReading b filtered) := by
  unfold State.takeReading
  extract_lets c reading s₁ s₂ s₃ before s₄
  have h₄ : TellsOnly r s₄ := h.congr (by simp [s₄, s₃, s₂, s₁])
  exact (h₄.stability _ _ _).ite h₄

theorem joinMean (b : BridgeNo) (count : Int) : TellsOnly r (s.joinMean b count) := by
  unfold State.joinMean
  extract_lets c mean s₁ filtered s₂
  have h₂ : TellsOnly r s₂ := h.congr rfl
  exact (h₂.ite (h₂.takeReading _ _)).ite (h.modChannel _ _)

theorem convert (b : BridgeNo) (count : Int) (agree : Bool) : TellsOnly r (s.convert b count agree) := by
  unfold State.convert
  split
  · exact ((h.modChannel _ _).raiseWireOff _).ite (h.modChannel _ _)
  · exact (((h.modChannel _ _).clearWireOff _).ite (h.modChannel _ _)).ite ((h.modChannel _ _).joinMean _ _)

theorem periodStable (b : BridgeNo) : TellsOnly r (s.periodStable b) := by
  unfold State.periodStable
  extract_lets c
  split
  · exact (h.modChannel _ _).stableEnding _ _ _
  · exact h

/-! ### Lines -/

theorem takeLevel (line : InputLine) : TellsOnly r (s.takeLevel line) := by
  have hedge {u : State} (hu : TellsOnly r u) : TellsOnly r (u.deliverEdge line) := by
    cases line with
    | cp => exact hu.canePulse _
    | ss => exact hu.congr u.strokeEdge_link
    | _ => exact hu.congr rfl
  have hlevel {i : Input} : TellsOnly r ((s.setInput line i).deliverLevel line) :=
    h.congr (State.deliverLevel_link _ _)
  exact ite (hedge hlevel) hlevel

theorem lineSet (x : LineTarget) (es : List (Nat × Nat)) : TellsOnly r (s.lineSet x es) := by
  cases x with
  | input line =>
    have hset : TellsOnly r (s.setInputSettings line es) := h.congr (State.setInputSettings_link _ _ _)
    have htold := ite (c := ((s.setInputSettings line es).lines.input line).polarity ≠
      (s.lines.input line).polarity ∧ (s.lines.input line).filtered.isSome = true)
      (hset.congr (State.deliverLevel_link _ line)) hset
    rw [State.lineSet]
    rcases State.lineSetInput_cases (s := s) line es with heq | ⟨heq, -⟩
    · rw [heq]; exact htold
    · rw [heq]; exact htold.takeLevel line
  | entryLamp b | exitLamp b =>
    rw [State.lineSet, State.lineSetLamp]
    repeat' split
    all_goals exact h.congr (by rfl)
  | sc | al => exact h

/-! ### Records and the minute -/

theorem windowComplete (sequence n : Nat) : TellsOnly r (s.windowComplete sequence n) := by
  unfold State.windowComplete
  extract_lets s₁ s₂
  have h₂ : TellsOnly r s₂ := by
    unfold s₂
    split
    · exact (h.modWindow _ _).notify _
    · exact h.modWindow _ _
  exact releaseTest (h₂.congr (foldl_keeps State.link State.settleTest_link _ _)) n

theorem ticketDone (b : BridgeNo) {complete : State → State} (hc : ∀ {u}, TellsOnly r u → TellsOnly r (complete u)) :
    TellsOnly r (s.ticketDone b complete) :=
  (hc (h.modBridge _ _)).leaveCapture b

theorem requesterComplete (sequence : Nat) (x : WriteRequest) : TellsOnly r (s.requesterComplete sequence x) := by
  unfold State.requesterComplete
  split
  · exact h.ticketDone _ fun hu => notify (hu.congr (by rfl)) _
  · exact h.ticketDone _ fun hu => hu.tareComplete _ _
  · exact h.storedComplete _ _
  · exact notify (h.congr (by rfl)) _
  · exact h.settleComplete _ _
  · exact h.windowComplete _ _
  · exact notify (h.congr (by rfl)) _
  · exact h.congr rfl
  · exact h.modChannel _ _
  · exact h.sessionComplete _ _
  · exact h

theorem completeWrite : TellsOnly r s.completeWrite := by
  unfold State.completeWrite
  split
  · exact h
  · split
    · exact h
    · next f _ =>
      extract_lets _ s₁ s₂
      have h₂ : TellsOnly r s₂ := requesterComplete (h.congr (by rfl)) _ _
      exact h₂.congr (State.startNext_link _)

theorem minute : TellsOnly r s.minute := by
  have clocked {u : State} (hu : TellsOnly r u) : TellsOnly r u.clockMinute := hu.ite (hu.raise _)
  refine clocked (foldl (foldl (durationTest (ite (h.congr (by rfl)) (h.congr (by rfl)))) ?_ _) ?_ _)
  · exact fun n hu => hu.expireWindow n
  · exact fun b hu => hu.congr (State.zeroMinute_link _ b)

end

end TellsOnly

end Sys2Proof.Machine

/-! SUPPORT. The decisions of the owners at the mill link: what each leaves of the port's buffers, and of the turn. -/
namespace Sys2Proof.Machine

open Sys2Proof

/-! ## The owners' decisions -/

namespace TellsOnly

section

variable {r s t : State} (h : TellsOnly r s)

include h

theorem decideBind (bridge pass vehicle cls insp wish grower delivery : Nat) :
    TellsOnly r ((decideBind bridge pass vehicle cls insp wish grower delivery s).after s) := by
  unfold Machine.decideBind
  dsimp only
  repeat' split
  all_goals try exact h
  · exact (h.reserve 2).congr (by rfl)
  · exact (h.reserve 1).congr (by rfl)

theorem decideUnbind (bridge : Nat) : TellsOnly r ((decideUnbind bridge s).after s) := by
  unfold Machine.decideUnbind
  repeat' split
  all_goals try exact h
  exact (h.discardBinding _).goIdle _

theorem decideClearFault (bridge : Nat) : TellsOnly r ((decideClearFault bridge s).after s) := by
  unfold Machine.decideClearFault
  repeat' split
  all_goals try exact h
  exact goIdle (h.congr (by rfl)) _

theorem decideTip (n : Nat) : TellsOnly r ((decideTip n s).after s) := by
  unfold Machine.decideTip
  dsimp only
  repeat' split
  all_goals try exact h
  · exact h.congr (by rfl)
  · exact h.congr (State.settleTest_link _ n)

theorem decideNetFromStored (n : Nat) : TellsOnly r ((decideNetFromStored n s).after s) := by
  unfold Machine.decideNetFromStored
  repeat' split
  all_goals try exact h
  exact ((h.reserve 1).modDelivery _ _).requestWrite _ _

theorem decideSampleClose (n : Nat) : TellsOnly r ((decideSampleClose n s).after s) := by
  unfold Machine.decideSampleClose
  repeat' split
  all_goals try exact h
  exact h.closeWindow _

theorem decideShiftMark (letter : Nat) : TellsOnly r ((decideShiftMark letter s).after s) := by
  unfold Machine.decideShiftMark
  dsimp only
  repeat' split
  all_goals try exact h
  exact requestWrite (((h.reserve 1).triggerClose _).congr (by rfl)) _ _

theorem decideConfigApply (channel : Nat) : TellsOnly r ((decideConfigApply channel s).after s) := by
  unfold Machine.decideConfigApply
  dsimp only
  repeat' split
  all_goals try exact h
  · exact (h.reserve 1).applyConfig _ _
  · exact (h.reserve 1).congr (by rfl)

theorem decideConfigDiscard (channel : Nat) : TellsOnly r ((decideConfigDiscard channel s).after s) := by
  unfold Machine.decideConfigDiscard
  dsimp only
  repeat' split
  · exact h
  · exact h
  · exact (h.modChannel _ _).giveBack 1
  · exact h.congr (by rfl)

theorem decideCalBegin (channel : Nat) : TellsOnly r ((decideCalBegin channel s).after s) := by
  unfold Machine.decideCalBegin
  split
  · exact h
  · next b _ =>
    extract_lets _ go
    have hgo (entry : EntryState) : TellsOnly r ((go entry).after s) := by
      unfold go
      repeat' split
      · exact h
      · exact h
      · exact (h.reserve 1).congr (by rfl)
    split
    · exact hgo _
    · exact hgo _
    · exact hgo _
    · exact h
    · exact h

theorem decideCalEnd (channel ending : Nat) : TellsOnly r ((decideCalEnd channel ending s).after s) := by
  unfold Machine.decideCalEnd State.calCommit
  dsimp only
  repeat' split
  all_goals try exact h
  · exact h.endSession _
  · exact (endSession (h.congr (by rfl)) _).notify _
  · exact (h.modChannel _ _).requestWrite _ _

theorem decideCalDefault (channel : Nat) : TellsOnly r ((decideCalDefault channel s).after s) := by
  unfold Machine.decideCalDefault
  dsimp only
  repeat' split
  all_goals try exact h
  have hzero {u : State} (hu : TellsOnly r u) (b : BridgeNo) (zero : Int) : TellsOnly r (u.setZero b zero) :=
    hu.setZero b zero
  exact (requestWrite (hzero ((h.reserve 1).congr (by rfl)) _ _) _ _).arise _ _

theorem decideLineSet (line : Nat) (es : List (Nat × Nat)) : TellsOnly r ((decideLineSet line es s).after s) := by
  unfold Machine.decideLineSet
  dsimp only
  repeat' split
  all_goals try exact h
  exact h.lineSet _ _

theorem decideExportMark (n : Nat) : TellsOnly r ((decideExportMark n s).after s) := by
  unfold Machine.decideExportMark
  dsimp only
  split
  · exact h
  · exact judgeStore (h.congr (by rfl))

theorem seasonWindows : TellsOnly r s.seasonWindows :=
  reserve (congr (h.giveBack s.unwrittenWindows) (by rfl)) 1

end

end TellsOnly

/-! ## The turn (R194) -/

/-- The turn stands by the slots, the turn and the frame on the line alone. -/
theorem Link.turnSound_port (l : Link) : l.port.turnSound ↔ l.turnSound := Iff.rfl

theorem Link.endOnLine_eq_true {l : Link} {n : SlotNo} :
    l.endOnLine n = true ↔ ∃ f, l.sending = some f ∧ f.mark = some ⟨n, true⟩ := by
  unfold Link.endOnLine
  split
  · next f hf => simp [hf]
  · next hf => simp [hf]

@[simp] theorem SlotNo.other_ne (n : SlotNo) : n.other ≠ n := by cases n <;> decide

@[simp] theorem Link.stream_setStream (l : Link) (n : SlotNo) (x : Option Stream) : (l.setStream n x).stream n = x := by
  cases n <;> rfl

theorem Link.stream_setStream_ne (l : Link) {n m : SlotNo} (h : m ≠ n) (x : Option Stream) :
    (l.setStream n x).stream m = l.stream m := by
  cases n <;> cases m <;> first | rfl | exact absurd rfl h

@[simp] theorem Link.setStream_turn (l : Link) (n : SlotNo) (x : Option Stream) : (l.setStream n x).turn = l.turn := by
  cases n <;> rfl

@[simp] theorem Link.setStream_sending (l : Link) (n : SlotNo) (x : Option Stream) :
    (l.setStream n x).sending = l.sending := by
  cases n <;> rfl

@[simp] theorem Link.endOnLine_setStream (l : Link) (n m : SlotNo) (x : Option Stream) :
    (l.setStream n x).endOnLine m = l.endOnLine m := by
  cases n <;> rfl

/-- Both slots are free just when no slot's stream is active (R195). -/
theorem Link.slots_free_iff {l : Link} : (l.slot1 = none ∧ l.slot2 = none) ↔ ∀ n, l.stream n = none :=
  ⟨fun ⟨h1, h2⟩ n => by cases n; exacts [h1, h2], fun h => ⟨h .one, h .two⟩⟩

theorem Link.unmark_mark {l : Link} {f : Sending} (hf : l.unmark.sending = some f) : f.mark = none := by
  obtain ⟨g, -, rfl⟩ := Option.map_eq_some_iff.mp hf
  rfl

/-- A turn given up beside an active stream of its own slot finds a taker (R194). -/
theorem Link.passTurn_getD {l : Link} {n : SlotNo} (h : (l.stream n).isSome = true) :
    some ((l.passTurn n).getD ⟨n, 0⟩) = l.passTurn n := by
  cases hp : l.passTurn n with
  | none =>
    rw [Link.slots_free_iff.mp ((Link.passTurn_eq_none l n).mp hp)] at h
    cases h
  | some t => rfl

namespace Link.turnSound

variable {l : Link}

/-- A held turn is sound: its slot is active or its last stream's REPORT END is on the line, and no frame on the line
counts for another slot. -/
theorem held {t : Turn} (ht : l.turn = some t) (hactive : (l.stream t.slot).isSome = true ∨ l.endOnLine t.slot = true)
    (hmark : ∀ f m, l.sending = some f → f.mark = some m → m.slot = t.slot) : l.turnSound := by
  refine ⟨fun hnone => ?_, fun u hu => ?_, fun f m hf hm => ⟨t.count, ?_⟩⟩
  · rw [ht] at hnone
    cases hnone
  · rw [ht] at hu
    obtain rfl := Option.some.inj hu
    exact hactive
  · rw [hmark f m hf hm, ht]

/-- A turn that nobody holds is sound where no stream is active and no frame on the line counts. -/
theorem unheld (ht : l.turn = none) (hfree : ∀ n, l.stream n = none)
    (hmark : ∀ f, l.sending = some f → f.mark = none) : l.turnSound := by
  refine ⟨fun _ => Link.slots_free_iff.mpr hfree, fun u hu => ?_, fun f m hf hm => ?_⟩
  · rw [ht] at hu
    cases hu
  · rw [hmark f hf] at hm
    cases hm

/-- A turn given up by slot `n` is soundly held again, where the frame on the line counts for none. -/
theorem passed {n : SlotNo} (ht : l.turn = l.passTurn n) (hmark : ∀ f, l.sending = some f → f.mark = none) :
    l.turnSound := by
  cases hp : l.passTurn n with
  | none => exact unheld (ht.trans hp) (Link.slots_free_iff.mp ((Link.passTurn_eq_none l n).mp hp)) hmark
  | some t =>
    refine held (ht.trans hp) (.inl (Link.passTurn_eq_some hp).1) fun f m hf hm => ?_
    rw [hmark f hf] at hm
    cases hm

/-- The stream in the turn's slot sends a frame that counts for the turn: it stays active, or ends with this frame. -/
theorem report {n : SlotNo} {k : Nat} {x : Option Stream} {f : Sending} {isEnd : Bool} (ht : l.turn = some ⟨n, k⟩)
    (hmark : f.mark = some ⟨n, isEnd⟩) (hx : x.isSome = true ∨ isEnd = true) :
    turnSound { l.setStream n x with sending := some f } := by
  refine held ((Link.setStream_turn l n x).trans ht) ?_ fun g m hg hm => ?_
  · rcases hx with hx | rfl
    · exact .inl ((congrArg Option.isSome (Link.stream_setStream l n x)).trans hx)
    · exact .inr (Link.endOnLine_eq_true.mpr ⟨f, rfl, hmark⟩)
  · obtain rfl := Option.some.inj hg
    rw [hmark] at hm
    rw [← Option.some.inj hm]

section

variable (h : l.turnSound)

include h

theorem holder {t : Turn} (ht : l.turn = some t) : (l.stream t.slot).isSome = true ∨ l.endOnLine t.slot = true :=
  h.2.1 t ht

/-- Where no REPORT END is on the line, the turn is held by an active stream. -/
theorem active {t : Turn} (ht : l.turn = some t) (hend : ∀ f, l.sending = some f → f.mark ≠ some ⟨t.slot, true⟩) :
    (l.stream t.slot).isSome = true := by
  refine (h.holder ht).resolve_right fun hline => ?_
  obtain ⟨f, hf, hm⟩ := Link.endOnLine_eq_true.mp hline
  exact hend f hf hm

theorem free {n : SlotNo} (ht : l.turn = none) : l.stream n = none := Link.slots_free_iff.mp (h.1 ht) n

theorem marked {t : Turn} {f : Sending} {m : TurnMark} (ht : l.turn = some t) (hf : l.sending = some f)
    (hm : f.mark = some m) : m.slot = t.slot := by
  obtain ⟨k, hk⟩ := h.2.2 f m hf hm
  rw [ht] at hk
  rw [Option.some.inj hk]

theorem unmarked {f : Sending} (ht : l.turn = none) (hf : l.sending = some f) : f.mark = none := by
  cases hm : f.mark with
  | none => rfl
  | some m =>
    obtain ⟨k, hk⟩ := h.2.2 f m hf hm
    rw [ht] at hk
    cases hk

/-- A frame that counts for no turn starts on an idle transmitter. -/
theorem transmit {f : Sending} (hidle : l.sending = none) (hmark : f.mark = none) :
    turnSound { l with sending := some f } := by
  have hnone (g : Sending) (hg : some f = some g) : g.mark = none := Option.some.inj hg ▸ hmark
  rcases Option.eq_none_or_eq_some l.turn with ht | ⟨t, ht⟩
  · exact unheld ht (fun _ => h.free ht) hnone
  · refine held ht (.inl (h.active ht fun g hg => ?_)) fun g m hg hm => ?_
    · rw [hidle] at hg
      cases hg
    · rw [hnone g hg] at hm
      cases hm

/-- A stream that begins beside another waits; one that begins alone takes the turn (R194, R195). -/
theorem startStream (n : SlotNo) (x : Stream) : (l.startStream n x).turnSound := by
  unfold Link.startStream
  cases hother : (l.stream n.other).isSome with
  | false =>
    have hactive := congrArg Option.isSome (Link.stream_setStream l n (some x))
    refine held (t := ⟨n, 0⟩) rfl (.inl hactive) fun f m hf hm => ?_
    rw [Link.unmark_mark (l := l.setStream n (some x)) hf] at hm
    cases hm
  | true =>
    cases ht : l.turn with
    | none =>
      rw [h.free ht] at hother
      cases hother
    | some t =>
      refine held ((Link.setStream_turn l n _).trans ht) ((h.holder ht).imp (fun hactive => ?_) fun hend => ?_) ?_
      · rcases eq_or_ne t.slot n with hn | hn
        · exact hn ▸ congrArg Option.isSome (Link.stream_setStream l n (some x))
        · exact (congrArg Option.isSome (Link.stream_setStream_ne l hn (some x))).trans hactive
      · exact (Link.endOnLine_setStream l n _ _).trans hend
      · intro f m hf hm
        exact h.marked ht ((Link.setStream_sending l n _).symm.trans hf) hm

/-- A stream that is stopped gives up a turn that it holds, and leaves any other turn as it was (R194, R197). -/
theorem stopStream (n : SlotNo) : (l.stopStream n).turnSound := by
  unfold Link.stopStream
  extract_lets freed
  cases ht : l.turn with
  | none =>
    refine unheld ((Link.setStream_turn l n none).trans ht) (fun m => ?_) fun f hf => ?_
    · rcases eq_or_ne m n with rfl | hm
      · exact Link.stream_setStream l m none
      · exact (Link.stream_setStream_ne l hm none).trans (h.free ht)
    · exact h.unmarked ht ((Link.setStream_sending l n none).symm.trans hf)
  | some t =>
    dsimp only
    split
    · exact passed (n := n) rfl fun f hf => Link.unmark_mark (l := freed) hf
    · next hkeep =>
      refine held ((Link.setStream_turn l n none).trans ht) ?_ fun f m hf hm => ?_
      · rcases eq_or_ne t.slot n with rfl | hn
        · right
          rw [Link.endOnLine_setStream]
          simpa using hkeep
        · rw [Link.stream_setStream_ne l hn, Link.endOnLine_setStream]
          exact h.holder ht
      · exact h.marked ht ((Link.setStream_sending l n _).symm.trans hf) hm

/-- SEASON OPEN's cut frees no slot (R197). -/
theorem cutStreams : l.cutStreams.turnSound := by
  have hslot (n : SlotNo) : l.cutStreams.stream n = (l.stream n).map fun x => { x with cut := true } := by
    cases n <;> rfl
  rcases Option.eq_none_or_eq_some l.turn with ht | ⟨t, ht⟩
  · refine unheld ht (fun n => ?_) fun f hf => h.unmarked ht hf
    rw [hslot, h.free ht, Option.map_none]
  · refine held ht ((h.holder ht).imp_left fun hactive => ?_) fun f m hf hm => h.marked ht hf hm
    rw [hslot, Option.isSome_map]
    exact hactive

/-- A frame that counts for no turn ends. -/
theorem ended {f : Sending} (hf : l.sending = some f) (hm : f.mark = none) : turnSound { l with sending := none } := by
  rcases Option.eq_none_or_eq_some l.turn with ht | ⟨t, ht⟩
  · exact unheld ht (fun _ => h.free ht) fun _ hg => by cases hg
  · refine held ht (.inl (h.active ht fun g hg => ?_)) fun _ _ hg => by cases hg
    rw [hf] at hg
    rw [← Option.some.inj hg, hm]
    exact nofun

/-- A report frame that counts for the turn ends, and the turn is settled (R194). -/
theorem settled {f : Sending} {m : TurnMark} (hf : l.sending = some f) (hm : f.mark = some m) :
    (Link.settleTurn { l with sending := none } m).turnSound := by
  obtain ⟨k, ht⟩ := h.2.2 f m hf hm
  have hactive (hlast : ¬ m.isEnd = true) : (l.stream m.slot).isSome = true := by
    refine h.active ht fun g hg hmark => hlast ?_
    rw [hf] at hg
    rw [← Option.some.inj hg, hm] at hmark
    rw [Option.some.inj hmark]
  unfold Link.settleTurn
  simp only [ht, ne_eq, not_true_eq_false, if_false]
  split
  · exact passed (n := m.slot) rfl fun _ hg => by cases hg
  · next hlast =>
    have hs := hactive hlast
    split
    · exact passed (n := m.slot) (Link.passTurn_getD hs) fun _ hg => by cases hg
    · exact held (t := ⟨m.slot, k + 1⟩) rfl (.inl hs) fun _ _ hg => by cases hg

end

end Link.turnSound

/-! ## What a decision leaves of the port -/

/-- On the way from one state to another no frame was taken from the input buffer or put into it, no reply was placed or
sent, the notice queue kept within its places, and the turn stayed sound. -/
structure PortKept (r s : State) : Prop where
  input : s.link.input = r.link.input
  replies : s.link.replies = r.link.replies
  queue : r.link.notices.length ≤ Config.noticeCapacity → s.link.notices.length ≤ Config.noticeCapacity
  turn : r.link.turnSound → s.link.turnSound

/-- Notices and flags alone keep what waits at the port, and the turn. -/
theorem TellsOnly.portKept {r s : State} (h : TellsOnly r s) : PortKept r s where
  input := (congrArg Link.input h.port :)
  replies := (congrArg Link.replies h.port :)
  queue := h.queue
  turn hr := by
    rw [← Link.turnSound_port, h.port]
    exact hr

theorem PortKept.trans {r s t : State} (h : PortKept r s) (h' : PortKept s t) : PortKept r t :=
  ⟨h'.input.trans h.input, h'.replies.trans h.replies, fun hr => h'.queue (h.queue hr), fun hr => h'.turn (h.turn hr)⟩

theorem PortKept.refl (s : State) : PortKept s s := (TellsOnly.refl s).portKept

/-- What waits at the port: frames, replies and notices (R188, R189, R192). -/
def Link.buffers (l : Link) : List Frame × List Reply × List Notice := (l.input, l.replies, l.notices)

theorem Link.setStream_buffers (l : Link) (n : SlotNo) (x : Option Stream) : (l.setStream n x).buffers = l.buffers := by
  cases n <;> rfl

theorem Link.startStream_buffers (l : Link) (n : SlotNo) (x : Stream) : (l.startStream n x).buffers = l.buffers := by
  unfold Link.startStream
  dsimp only
  split
  · exact Link.setStream_buffers l n _
  · exact Link.setStream_buffers l n _

theorem Link.stopStream_buffers (l : Link) (n : SlotNo) : (l.stopStream n).buffers = l.buffers := by
  unfold Link.stopStream
  dsimp only
  repeat' split
  all_goals exact Link.setStream_buffers l n _

theorem PortKept.of_buffers {s t : State} (h : t.link.buffers = s.link.buffers)
    (hturn : s.link.turnSound → t.link.turnSound) : PortKept s t := by
  simp only [Link.buffers, Prod.mk.injEq] at h
  obtain ⟨hinput, hreplies, hnotices⟩ := h
  exact ⟨hinput, hreplies, by rw [hnotices]; exact id, hturn⟩

theorem decideReportStart_portKept (set : Nat) (tag : Byte) (s : State) :
    PortKept s ((decideReportStart set tag s).after s) := by
  unfold decideReportStart
  split
  · exact .refl s
  · split
    · exact .refl s
    · exact .of_buffers (Link.startStream_buffers _ _ _) fun h => h.startStream _ _

theorem decideReportStop_portKept (slot : Nat) (s : State) : PortKept s ((decideReportStop slot s).after s) := by
  unfold decideReportStop
  split
  · exact .refl s
  · split
    · exact .refl s
    · exact .of_buffers (Link.stopStream_buffers _ _) fun h => h.stopStream _

theorem decideLinkSet_portKept (minRun maxRun : Nat) (s : State) :
    PortKept s ((decideLinkSet minRun maxRun s).after s) := by
  unfold decideLinkSet
  split
  · exact .refl s
  · exact .of_buffers rfl id

theorem decideSeasonOpen_portKept (s : State) : PortKept s ((decideSeasonOpen s).after s) := by
  unfold decideSeasonOpen
  split
  · exact .refl s
  · refine (((TellsOnly.refl s).reserve 1).seasonWindows).portKept.trans ?_
    refine .trans (.of_buffers ?_ fun h => h.cutStreams) ((TellsOnly.refl _).requestWrite _ _).portKept
    rfl

/-- No owner's decision touches the port's buffers, and each keeps the turn sound. -/
theorem decideRequest_portKept (q : Request) (tag : Byte) (s : State) :
    PortKept s ((decideRequest q tag s).after s) := by
  have h := TellsOnly.refl s
  cases q
  case linkSet => exact decideLinkSet_portKept _ _ s
  case reportStart => exact decideReportStart_portKept _ tag s
  case reportStop => exact decideReportStop_portKept _ s
  case seasonOpen => exact decideSeasonOpen_portKept s
  all_goals refine TellsOnly.portKept ?_
  case attention => exact h.setFlags _
  case bind => exact h.decideBind _ _ _ _ _ _ _ _
  case unbind => exact h.decideUnbind _
  case clearFault => exact h.decideClearFault _
  case tip => exact h.decideTip _
  case netFromStored => exact h.decideNetFromStored _
  case sampleClose => exact h.decideSampleClose _
  case shiftMark => exact h.decideShiftMark _
  case configApply => exact h.decideConfigApply _
  case configDiscard => exact h.decideConfigDiscard _
  case calBegin => exact h.decideCalBegin _
  case calEnd => exact h.decideCalEnd _ _
  case calDefault => exact h.decideCalDefault _
  case lineSet => exact h.decideLineSet _ _
  case exportMark => exact h.decideExportMark _
  all_goals
    simp only [decideRequest, decideStatus, decideZeroNow, decideTimeSet,
      decideBridgeQuery, decideVoid, decideDeliveryQuery, decideVehicleSet, decideVehicleDrop, decideGrowerSet,
      decideGrowerDrop, decideGrowerQuery, decideSampleResult, decideSampleVoid, decideWindowQuery, decideProfileLoad,
      decideProfileRead, decideConfigOpen, decideConfigSet, decideCalZero, decideCalSpan, decideStoreRead]
    repeat' split
  all_goals exact h.congr (by simp [State.beginStep, State.endPeriod])

end Sys2Proof.Machine

/-! SUPPORT. The mill link port: its arbiter case by case, the end of a step, and what every operation of the port and
every step keep of its buffers and its turn. -/
namespace Sys2Proof.Machine

open Sys2Proof

section

variable {s : State}

/-! ## The arbiter, case by case (R193) -/

theorem State.pump_reply (hidle : s.link.sending = none) {r : Reply} {rest : List Reply}
    (hr : s.link.replies = r :: rest) :
    s.pump = State.transmit { s with link := { s.link with replies := rest } } (.reply r) none := by
  simp only [State.pump, hidle, hr, Option.isSome_none, Bool.false_eq_true, if_false]

theorem State.pump_notice (hidle : s.link.sending = none) (hr : s.link.replies = []) {n : Notice} {rest : List Notice}
    (hn : s.link.chooseNotice = some (n, rest)) :
    s.pump = State.transmit { s with link := { s.link with notices := rest } } (.notice n) none := by
  simp only [State.pump, hidle, hr, hn, Option.isSome_none, Bool.false_eq_true, if_false]

theorem State.pump_report (hidle : s.link.sending = none) (hr : s.link.replies = []) (hn : s.link.chooseNotice = none)
    {t : Turn} {x : Stream} (ht : s.link.turn = some t) (hx : s.link.stream t.slot = some x) :
    s.pump = s.sendReport t.slot x := by
  simp only [State.pump, hidle, hr, hn, ht, hx, Option.isSome_none, Bool.false_eq_true, if_false]

theorem State.pump_nothing (hidle : s.link.sending = none) (hr : s.link.replies = []) (hn : s.link.chooseNotice = none)
    (hx : ∀ t, s.link.turn = some t → s.link.stream t.slot = none) : s.pump = s := by
  simp only [State.pump, hidle, hr, hn, Option.isSome_none, Bool.false_eq_true, if_false]
  split
  · rfl
  · next t ht => rw [hx t ht]

/-- The arbiter starts a reply, a notice or a report frame, or finds the transmitter busy or nothing to send. -/
theorem State.pump_cases {P : State → Prop} (s : State)
    (busy : s.link.sending.isSome = true → P s)
    (reply : ∀ r rest, s.link.sending = none → s.link.replies = r :: rest →
      P (State.transmit { s with link := { s.link with replies := rest } } (.reply r) none))
    (notice : ∀ n rest, s.link.sending = none → s.link.replies = [] → s.link.chooseNotice = some (n, rest) →
      P (State.transmit { s with link := { s.link with notices := rest } } (.notice n) none))
    (report : ∀ t x, s.link.sending = none → s.link.replies = [] → s.link.chooseNotice = none →
      s.link.turn = some t → s.link.stream t.slot = some x → P (s.sendReport t.slot x))
    (nothing : s.link.sending = none → s.link.replies = [] → s.link.chooseNotice = none →
      (∀ t, s.link.turn = some t → s.link.stream t.slot = none) → P s) : P s.pump := by
  rcases Option.eq_none_or_eq_some s.link.sending with hidle | ⟨f, hf⟩
  · cases hr : s.link.replies with
    | cons r rest => rw [State.pump_reply hidle hr]; exact reply r rest hidle hr
    | nil =>
      cases hn : s.link.chooseNotice with
      | some p => rw [State.pump_notice hidle hr hn]; exact notice _ _ hidle hr hn
      | none =>
        by_cases hx : ∃ t x, s.link.turn = some t ∧ s.link.stream t.slot = some x
        · obtain ⟨t, x, ht, hx⟩ := hx
          rw [State.pump_report hidle hr hn ht hx]
          exact report t x hidle hr hn ht hx
        · have hnone (t : Turn) (ht : s.link.turn = some t) : s.link.stream t.slot = none :=
            Option.eq_none_iff_forall_ne_some.mpr fun x hs => hx ⟨t, x, ht, hs⟩
          rw [State.pump_nothing hidle hr hn hnone]
          exact nothing hidle hr hn hnone
  · rw [State.pump_of_sending s (by rw [hf]; rfl)]
    exact busy (by rw [hf]; rfl)

/-- A stream's next frame is a REPORT ITEM, which leaves the stream active, or its REPORT END (R196, R197). -/
theorem State.sendReport_cases (s : State) (n : SlotNo) (x : Stream) :
    ∃ frame y isEnd, (y.isSome = true ∨ isEnd = true) ∧
      s.sendReport n x = State.transmit { s with link := s.link.setStream n y } frame (some ⟨n, isEnd⟩) := by
  unfold State.sendReport
  dsimp only
  split
  · exact ⟨_, none, true, .inr rfl, rfl⟩
  · split
    · exact ⟨_, none, true, .inr rfl, rfl⟩
    · exact ⟨_, some _, false, .inl rfl, rfl⟩

/-- A notice chosen is one of those that wait (R193). -/
theorem Link.chooseNotice_length {l : Link} {n : Notice} {rest : List Notice} (h : l.chooseNotice = some (n, rest)) :
    rest.length ≤ l.notices.length := by
  have htaken {p : Notice → Bool} (hp : takeFirst p l.notices = some (n, rest)) : rest.length ≤ l.notices.length := by
    obtain ⟨older, newer, hqueue, rfl, -, -⟩ := takeFirst_eq_some hp
    rw [hqueue, List.length_append, List.length_append, List.length_cons]
    omega
  unfold Link.chooseNotice at h
  split at h
  · next hp => exact htaken (hp.trans h)
  · split at h
    · cases h
    · exact htaken h

/-- With no turn held, only an empty notice queue has nothing to choose (R193). -/
theorem Link.notices_of_no_choice {l : Link} (h : l.chooseNotice = none) (ht : l.turn = none) : l.notices = [] := by
  cases hl : l.notices with
  | nil => rfl
  | cons n rest =>
    unfold Link.chooseNotice at h
    split at h
    · cases h
    · simp [Link.holdsBack, ht, hl, takeFirst] at h

/-- The arbiter takes replies and notices, and gives none back. -/
theorem State.pump_lengths (s : State) : s.pump.link.replies.length ≤ s.link.replies.length ∧
    s.pump.link.notices.length ≤ s.link.notices.length := by
  refine State.pump_cases (P := fun t => t.link.replies.length ≤ s.link.replies.length ∧
    t.link.notices.length ≤ s.link.notices.length) s
    (fun _ => ⟨le_rfl, le_rfl⟩) ?_ ?_ ?_ fun _ _ _ _ => ⟨le_rfl, le_rfl⟩
  · intro r rest _ hr
    exact ⟨by rw [hr]; exact Nat.le_succ _, le_rfl⟩
  · intro n rest _ _ hn
    exact ⟨le_rfl, Link.chooseNotice_length hn⟩
  · intro t x _ _ _ _ _
    obtain ⟨frame, y, isEnd, -, hs⟩ := s.sendReport_cases t.slot x
    rw [hs, State.transmit_link]
    exact ⟨by simp, by simp⟩

/-- The arbiter's choice keeps the turn sound: a report frame counts for the turn, any other frame for none. -/
theorem State.pump_turnSound (h : s.link.turnSound) : s.pump.link.turnSound := by
  refine State.pump_cases (P := fun t => t.link.turnSound) s (fun _ => h) ?_ ?_ ?_ fun _ _ _ _ => h
  · exact fun _ _ hidle _ => Link.turnSound.transmit (l := { s.link with replies := _ }) h hidle rfl
  · exact fun _ _ hidle _ _ => Link.turnSound.transmit (l := { s.link with notices := _ }) h hidle rfl
  · intro t x _ _ _ ht _
    obtain ⟨frame, y, isEnd, hy, hs⟩ := s.sendReport_cases t.slot x
    rw [hs]
    exact Link.turnSound.report (f := ⟨frame, outFrameBytes frame, some ⟨t.slot, isEnd⟩⟩) ht rfl hy

/-- After the arbiter's choice the transmitter is idle only with nothing that may be sent. -/
theorem State.pump_idle (hidle : s.pump.link.sending = none) : s.pump.link.replies = [] ∧
    (s.pump.link.turn = none → s.pump.link.notices = []) ∧
      ∀ u, s.pump.link.turn = some u → s.pump.link.stream u.slot = none := by
  revert hidle
  refine State.pump_cases (P := fun t => t.link.sending = none → t.link.replies = [] ∧
    (t.link.turn = none → t.link.notices = []) ∧ ∀ u, t.link.turn = some u → t.link.stream u.slot = none) s
    ?_ ?_ ?_ ?_ ?_
  · intro hbusy hidle
    rw [hidle] at hbusy
    cases hbusy
  · exact fun _ _ _ _ => nofun
  · exact fun _ _ _ _ _ => nofun
  · intro t x _ _ _ _ _
    obtain ⟨frame, y, isEnd, -, hs⟩ := s.sendReport_cases t.slot x
    rw [hs]
    exact nofun
  · exact fun _ hr hn hx _ => ⟨hr, Link.notices_of_no_choice hn, hx⟩

/-! ## The end of a step -/

/-- The port's end of a step is a choice of the arbiter, after whatever waiting frames it dispatched. -/
theorem State.settle_eq_pump (fuel : Nat) : ∀ s : State, ∃ u : State, s.settle fuel = u.pump := by
  induction fuel with
  | zero => exact fun s => ⟨s, rfl⟩
  | succ fuel ih =>
    intro s
    unfold State.settle
    dsimp only
    split
    · exact ⟨s, rfl⟩
    · split
      · exact ih _
      · exact ⟨s, rfl⟩

theorem State.submit_eq_settleLink (s : State) (r : Request) (tag : Byte) :
    ∃ u : State, s.submit r tag = u.settleLink := by
  unfold State.submit
  split
  · exact ⟨_, rfl⟩
  · exact ⟨_, rfl⟩

/-- Every command ends with the port's end of a step. -/
theorem exec_eq_settleLink {c : Instr} {t : State} (h : exec c s = .next t) : ∃ u : State, t = u.settleLink := by
  cases c
  case restart minutes seconds stopped failing =>
    obtain rfl := Host.Outcome.next.inj h
    cases hmark : s.store.formatMark with
    | false => exact ⟨_, (if_pos hmark).trans s.blank_eq_settleLink⟩
    | true => exact ⟨_, State.restart_formatted minutes seconds stopped failing hmark⟩
  case blankStart => exact ⟨_, (Host.Outcome.next.inj h).symm.trans s.blank_eq_settleLink⟩
  case unknownRequestKind | frameReceived | frameBadLength | frameGap | transmitComplete | rawLevelChange
      | inputHoldExpiry | clearHoldExpiry | bindingExpiry | rangePersistenceExpiry | strokeConfirmExpiry | scPulseEnd
      | scGapEnd | calStepTimeout | calIdleTimeout | minuteEvent | runningMinutesLimit | resultDeadlineExpiry
      | zeroDeadlineExpiry | loadCellConversion | stableEnding | wireOffRaise | wireOffClear | writeComplete
      | verifyFailure =>
    exact ⟨_, (Host.Outcome.next.inj h).symm⟩
  all_goals exact Host.Outcome.next.inj h ▸ s.submit_eq_settleLink _ _

end

/-! ## The port's invariants through every operation -/

/-- What is kept of the port's two invariants on the way from one state to another. -/
structure LinkKept (r s : State) : Prop where
  buffers : r.buffersSound → s.buffersSound
  turn : r.link.turnSound → s.link.turnSound

theorem PortKept.linkKept {r s : State} (h : PortKept r s) : LinkKept r s where
  buffers := fun ⟨hinput, hreplies, hqueue⟩ => ⟨h.input ▸ hinput, h.replies ▸ hreplies, h.queue hqueue⟩
  turn := h.turn

namespace LinkKept

theorem refl (s : State) : LinkKept s s := ⟨id, id⟩

section

variable {r s t : State} (h : LinkKept r s)

include h

theorem trans (h' : LinkKept s t) : LinkKept r t := ⟨fun hr => h'.buffers (h.buffers hr), fun hr => h'.turn (h.turn hr)⟩

theorem ite {c : Prop} [Decidable c] (h' : LinkKept r t) : LinkKept r (if c then s else t) := by
  split
  · exact h
  · exact h'

/-- The receiver is no part of either invariant. -/
theorem setReceiver (x : Receiver) : LinkKept r (s.setReceiver x) := ⟨h.buffers, h.turn⟩

theorem raise (f : Flag) : LinkKept r (s.raise f) := ⟨h.buffers, h.turn⟩

theorem pump : LinkKept r s.pump := by
  refine h.trans ⟨fun ⟨hinput, hreplies, hqueue⟩ => ?_, State.pump_turnSound⟩
  obtain ⟨hr, hq⟩ := s.pump_lengths
  exact ⟨s.pump_link_input ▸ hinput, hr.trans hreplies, hq.trans hqueue⟩

/-- A reply is placed where the reply list has room (R189). -/
theorem placeReply (hroom : s.link.replies.length < Config.bufferCapacity) (x : Reply) :
    LinkKept r (s.placeReply x) := by
  refine h.trans ⟨fun ⟨hinput, _, hqueue⟩ => ⟨hinput, ?_, hqueue⟩, id⟩
  rw [State.placeReply_link, List.length_append]
  exact hroom

/-- A decision that leaves the port's buffers alone is answered where the reply list has room. -/
theorem answer (hroom : s.link.replies.length < Config.bufferCapacity) {d : Decision} (hd : PortKept s (d.after s))
    (kind tag : Byte) : LinkKept r (s.answer kind tag d) := by
  cases d with
  | refuse code => exact h.placeReply hroom _
  | take u content => exact (h.trans hd.linkKept).placeReply (by rw [hd.replies]; exact hroom) _

theorem dispatch (hroom : s.link.replies.length < Config.bufferCapacity) (f : Frame) : LinkKept r (s.dispatch f) := by
  unfold State.dispatch
  split
  · exact h.answer hroom (decideRequest_portKept _ _ s) _ _
  · exact h.placeReply hroom _
  · exact h.answer hroom (d := .refuse _) (.refl s) _ _

omit h in
theorem settle (fuel : Nat) : ∀ {s : State}, LinkKept r s → LinkKept r (s.settle fuel) := by
  induction fuel with
  | zero => exact fun h => h.pump
  | succ fuel ih =>
    intro s h
    unfold State.settle
    extract_lets s₁
    have h₁ : LinkKept r s₁ := h.pump
    split
    · exact h₁
    · next f rest hinput =>
      split
      · next hroom =>
        have hrest : LinkKept r { s₁ with link := { s₁.link with input := rest } } := by
          refine h₁.trans ⟨fun ⟨hlength, hreplies, hqueue⟩ => ⟨?_, hreplies, hqueue⟩, id⟩
          rw [hinput] at hlength
          exact (Nat.le_succ _).trans hlength
        exact ih (hrest.dispatch hroom f)
      · exact h₁

theorem settleLink : LinkKept r s.settleLink := settle _ h

theorem receiveFrame (f : Frame) : LinkKept r (s.receiveFrame f) := by
  unfold State.receiveFrame
  split
  · next hroom =>
    refine h.trans ⟨fun ⟨_, hreplies, hqueue⟩ => ⟨?_, hreplies, hqueue⟩, id⟩
    rw [List.length_append]
    exact hroom
  · exact h.raise _

theorem feedByte (b : Byte) : LinkKept r (s.feedByte b) := by
  unfold State.feedByte
  split
  · exact (h.setReceiver _).ite h
  · exact ((h.setReceiver _).raise _).ite (h.setReceiver _)
  · refine (h.setReceiver _).ite ?_
    split
    · exact ((h.setReceiver _).receiveFrame _).settleLink
    · exact (h.setReceiver _).raise _

theorem badLength (l : Byte) : LinkKept r (s.badLength l) := by
  unfold State.badLength
  split
  · exact (h.feedByte _).feedByte _
  · exact h.feedByte _
  · exact h

theorem endFrame : LinkKept r s.endFrame := by
  unfold State.endFrame
  split
  · exact h
  · next f hf =>
    refine h.trans ?_
    dsimp only
    split
    · next m hm =>
      refine (PortKept.of_buffers ?_ fun hs => hs.settled hf hm).linkKept
      unfold Link.settleTurn
      repeat' split
      all_goals rfl
    · next hm =>
      refine (PortKept.of_buffers ?_ fun hs => hs.ended hf hm).linkKept
      rfl

theorem submit (q : Request) (tag : Byte) : LinkKept r (s.submit q tag) := by
  by_cases hready : s.ready
  · rw [State.submit_ready hready]
    exact (h.answer hready.2 (decideRequest_portKept q tag s) _ _).settleLink
  · rw [State.submit_waits hready]
    exact (h.receiveFrame _).settleLink

omit h in
/-- A fresh start empties the port, and no turn is held (R202). -/
theorem comeUp (minutes seconds : Nat) (stopped : Bool) : LinkKept r (s.comeUp minutes seconds stopped) :=
  ⟨fun _ => ⟨Nat.zero_le _, Nat.zero_le _, Nat.zero_le _⟩,
    fun _ => Link.turnSound.unheld rfl (fun n => by cases n <;> rfl) fun _ hf => by cases hf⟩

omit h in
/-- What RESTART does after the fresh start tells the port of its alarms alone. -/
theorem started (minutes seconds : Nat) (stopped : Bool) (failing : Nat) :
    TellsOnly (s.comeUp minutes seconds stopped) (s.started minutes seconds stopped failing) := by
  refine State.alarmed_keeps (fun _ _ hu => hu.notify _) (fun _ _ _ hu => hu.raise _) ?_
  refine State.bridgesComeUp_keeps (fun _ _ _ hu => hu.enterLocked _ _ _) (fun _ _ hu => hu.congr (by rfl)) ?_
  refine State.askAgain_keeps (fun _ _ _ hu => hu.requestWrite _ _) ?_
  refine State.settleWindows_keeps (fun _ _ _ hu => hu.congr (by rfl)) (fun _ hu => hu.raise _) ?_
  exact State.scanned_keeps (fun _ _ hu => TellsOnly.raise (hu.congr (by rfl)) _) (fun _ hu => hu.congr (by rfl))
    (fun _ _ hu => hu.congr (by rfl)) failing (.refl _)

omit h in
theorem blank (s : State) : LinkKept r s.blank := by
  rw [State.blank_eq]
  exact ⟨fun _ => State.reset_buffersSound, fun _ => State.reset_turnSound⟩

omit h in
theorem restart (s : State) (minutes seconds : Nat) (stopped : Bool) (failing : Nat) :
    LinkKept r (s.restart minutes seconds stopped failing) := by
  cases hmark : s.store.formatMark with
  | false =>
    unfold State.restart
    rw [if_pos hmark]
    exact blank s
  | true =>
    rw [State.restart_formatted minutes seconds stopped failing hmark]
    have hup : LinkKept r (s.comeUp minutes seconds stopped) := comeUp minutes seconds stopped
    exact (hup.trans (started minutes seconds stopped failing).portKept.linkKept).settleLink

omit h in
/-- What an owner does with an event, and the port's end of the step. -/
theorem told (h : TellsOnly s t) : LinkKept s t.settleLink := h.portKept.linkKept.settleLink

omit h in
theorem exec {c : Instr} (he : exec c s = .next t) : LinkKept s t := by
  have h := refl s
  have hs := TellsOnly.refl s
  cases c
  all_goals obtain rfl := Host.Outcome.next.inj he
  case unknownRequestKind => exact (h.receiveFrame _).settleLink
  case frameReceived bytes =>
    exact settleLink (List.foldlRecOn (motive := LinkKept s) bytes _ h fun _ hu b _ => hu.feedByte b)
  case frameBadLength => exact (h.badLength _).settleLink
  case frameGap => exact ((h.setReceiver _).raise _).settleLink
  case transmitComplete => exact h.endFrame.settleLink
  case rawLevelChange => exact told (hs.congr (by rfl))
  case inputHoldExpiry => exact told ((hs.takeLevel _).ite hs)
  case clearHoldExpiry => exact told ((hs.judgeAbsent _).ite hs)
  case bindingExpiry => exact told (hs.bindExpired _)
  case rangePersistenceExpiry => exact told (hs.persistenceExpired _ _)
  case strokeConfirmExpiry => exact told hs.confirmExpired
  case scPulseEnd => exact told (hs.congr (by rfl))
  case scGapEnd => exact told (hs.congr (by rfl))
  case calStepTimeout => exact told (hs.stepTimeout _)
  case calIdleTimeout => exact told (hs.sessionTimeout _)
  case minuteEvent => exact told hs.minute
  case runningMinutesLimit => exact told hs.durationTest
  case resultDeadlineExpiry => exact told (hs.expireWindow _)
  case zeroDeadlineExpiry => exact told (hs.congr (State.zeroMinute_link _ _))
  case loadCellConversion => exact told (hs.convert _ _ _)
  case stableEnding => exact told (hs.periodStable _)
  case wireOffRaise => exact told (hs.ite ((hs.modChannel _ _).raiseWireOff _))
  case wireOffClear => exact told (((hs.modChannel _ _).clearWireOff _).ite hs)
  case writeComplete => exact told hs.completeWrite
  case verifyFailure => exact told hs.failVerify
  case restart => exact restart s _ _ _ _
  case blankStart => exact blank s
  all_goals exact h.submit _ _

omit h in
/-- The millisecond of an idle step is no concern of the port. -/
theorem step (hs : step s = .next t) : LinkKept s t := by
  cases hq : s.pending with
  | nil =>
    rw [step_of_empty hq] at hs
    obtain rfl := Host.Outcome.next.inj hs
    exact ⟨id, id⟩
  | cons c rest =>
    rw [step_of_cons hq] at hs
    have he := exec hs
    exact ⟨he.buffers, he.turn⟩

end

end LinkKept

/-- A command that leaves the transmitter idle leaves no reply, and a stream or a notice only behind a turn whose slot
is free (R193). -/
theorem exec_idle {c : Instr} {s t : State} (he : exec c s = .next t) (hidle : t.link.sending = none) :
    t.link.replies = [] ∧ (t.link.turn = none → t.link.notices = []) ∧
      ∀ u, t.link.turn = some u → t.link.stream u.slot = none := by
  obtain ⟨v, rfl⟩ := exec_eq_settleLink he
  obtain ⟨u, hu⟩ := State.settle_eq_pump (v.link.input.length + 1) v
  rw [State.settleLink, hu] at hidle ⊢
  exact State.pump_idle hidle

/-- While the turn is held by a stream, an idle transmitter has nothing left to send (R193, R194). -/
theorem exec_idle_of_turnSound {c : Instr} {s t : State} (hsound : s.link.turnSound) (he : exec c s = .next t)
    (hidle : t.link.sending = none) :
    t.link.replies = [] ∧ t.link.notices = [] ∧ t.link.slot1 = none ∧ t.link.slot2 = none := by
  obtain ⟨hreplies, hnotices, hstream⟩ := exec_idle he hidle
  have ht : t.link.turnSound := (LinkKept.exec he).turn hsound
  cases hturn : t.link.turn with
  | none => exact ⟨hreplies, hnotices hturn, ht.1 hturn⟩
  | some u =>
    have hactive : (t.link.stream u.slot).isSome = true := by
      refine ht.active hturn fun f hf => ?_
      rw [hidle] at hf
      cases hf
    rw [hstream u hturn] at hactive
    cases hactive

/-- Settles O8: every step keeps the two invariants, `LinkKept.step`; every command ends with the arbiter's choice. -/
theorem linkBuffersAndTransmitterStaySound : Obligations.LinkBuffersAndTransmitterStaySound :=
  ⟨fun _ _ h hs => (LinkKept.step hs).buffers h, fun _ _ _ he hidle => exec_idle he hidle,
    fun _ _ h hs => (LinkKept.step hs).turn h, fun _ _ _ h he hidle => exec_idle_of_turnSound h he hidle⟩

end Sys2Proof.Machine

/-! SUPPORT. The notice queue, the arbiter's order, and the streams' frames and turn. -/
namespace Sys2Proof.Machine

open Sys2Proof

section

variable {s : State}

/-! ## A notice takes its place (R191, R192) -/

/-- The next notice number is taken (R191). -/
def State.numbered (s : State) : State := { s with link := { s.link with noticeNumber := s.link.noticeNumber + 1 } }

theorem State.notify_room (body : NoticeBody) (h : s.link.notices.length < Config.noticeCapacity) :
    s.notify body = { s.numbered with link := { s.numbered.link with
      notices := s.link.notices ++ [⟨s.link.noticeNumber + 1, body⟩] } } :=
  if_pos h

/-- A full queue drops an ordinary notice. -/
theorem State.notify_ordinary {body : NoticeBody} (h : Config.noticeCapacity ≤ s.link.notices.length)
    (hbody : body.isAlarm = false) : s.notify body = s.numbered.raise .noticeLost := by
  simp only [State.notify, Nat.not_lt.mpr h, hbody, if_false, Bool.false_eq_true]
  rfl

/-- A full queue of alarms drops an alarm too. -/
theorem State.notify_fullOfAlarms {body : NoticeBody} (h : Config.noticeCapacity ≤ s.link.notices.length)
    (hbody : body.isAlarm = true) (hall : ∀ n ∈ s.link.notices, n.body.isAlarm = true) :
    s.notify body = s.numbered.raise .noticeLost := by
  have htake : takeFirst (fun x : Notice => !x.body.isAlarm) s.link.notices = none :=
    takeFirst_eq_none fun n hn => by rw [hall n hn]; rfl
  simp only [State.notify, Nat.not_lt.mpr h, hbody, htake, if_false, if_true]
  rfl

/-- A full queue gives up its oldest ordinary notice to an alarm. -/
theorem State.notify_alarm {body : NoticeBody} {older newer : List Notice} {n : Notice}
    (h : Config.noticeCapacity ≤ s.link.notices.length) (hbody : body.isAlarm = true)
    (hqueue : s.link.notices = older ++ n :: newer) (hn : n.body.isAlarm = false)
    (holder : ∀ m ∈ older, m.body.isAlarm = true) :
    s.notify body = State.raise { s.numbered with link := { s.numbered.link with
      notices := older ++ newer ++ [⟨s.link.noticeNumber + 1, body⟩] } } .noticeLost := by
  have htake : takeFirst (fun x : Notice => !x.body.isAlarm) s.link.notices = some (n, older ++ newer) := by
    rw [hqueue]
    exact takeFirst_append (by rw [hn]; rfl) fun m hm => by rw [holder m hm]; rfl
  simp only [State.notify, Nat.not_lt.mpr h, hbody, htake, if_false, if_true]
  rfl

end

/-- Settles O13: the queue with room, `State.notify_room`, and a full one by the notice's level and the levels that
wait. -/
theorem noticesTakeTheirPlaceInTheQueue : Obligations.NoticesTakeTheirPlaceInTheQueue := fun _ body =>
  ⟨State.notify_room body, State.notify_ordinary, State.notify_fullOfAlarms,
    fun _ _ _ hqueue hfull hbody hn holder => State.notify_alarm hfull hbody hqueue hn holder⟩

section

variable {s : State}

/-! ## The notice that the arbiter chooses (R193) -/

theorem Link.chooseNotice_alarm {l : Link} {older newer : List Notice} {n : Notice}
    (hqueue : l.notices = older ++ n :: newer) (hn : n.body.isAlarm = true)
    (holder : ∀ m ∈ older, m.body.isAlarm = false) : l.chooseNotice = some (n, older ++ newer) := by
  have htake : takeFirst (fun x : Notice => x.body.isAlarm) l.notices = some (n, older ++ newer) := by
    rw [hqueue]
    exact takeFirst_append hn holder
  rw [Link.chooseNotice, htake]

theorem Link.chooseNotice_ordinary {l : Link} (hqueue : ∀ m ∈ l.notices, m.body.isAlarm = false) :
    l.chooseNotice = if l.holdsBack then none else takeFirst (fun _ => true) l.notices := by
  rw [Link.chooseNotice, takeFirst_eq_none hqueue]

theorem Link.chooseNotice_oldest {l : Link} (hqueue : ∀ m ∈ l.notices, m.body.isAlarm = false)
    (hfree : l.holdsBack = false) {n : Notice} {rest : List Notice} (hn : l.notices = n :: rest) :
    l.chooseNotice = some (n, rest) := by
  rw [Link.chooseNotice_ordinary hqueue, hfree, hn]
  rfl

theorem Link.chooseNotice_none {l : Link} (hqueue : ∀ m ∈ l.notices, m.body.isAlarm = false)
    (hnone : l.holdsBack = true ∨ l.notices = []) : l.chooseNotice = none := by
  rw [Link.chooseNotice_ordinary hqueue]
  rcases hnone with hheld | hempty
  · rw [hheld]
    rfl
  · rw [hempty]
    exact ite_self _

/-! ## A stream's next frame (R196, R197) -/

/-- The first record above a key: those before it are not. -/
theorem Table.above_append {α : Type} {last : Option Nat} {older newer : Table α} {k : Nat} {a : α}
    (holder : ∀ p ∈ older, ¬ ∀ l, last = some l → l < p.1) (hk : ∀ l, last = some l → l < k) :
    Table.above (older ++ (k, a) :: newer) last = some (k, a) := by
  cases last with
  | none =>
    cases older with
    | nil => rfl
    | cons p older => exact absurd nofun (holder p List.mem_cons_self)
  | some l =>
    refine List.find?_eq_some_iff_append.mpr ⟨by simpa using hk l rfl, older, newer, rfl, fun p hp => ?_⟩
    simpa using holder p hp

theorem Table.above_eq_none {α : Type} {last : Option Nat} {t : Table α}
    (h : ∀ p ∈ t, ¬ ∀ l, last = some l → l < p.1) : t.above last = none := by
  refine List.find?_eq_none.mpr fun p hp => ?_
  cases last with
  | none => exact absurd nofun (h p hp)
  | some l => simpa using h p hp

/-- A stream that sends no further item: its REPORT END frees the slot (R196, R197). -/
def State.streamEnded (s : State) (n : SlotNo) (x : Stream) (cut : Bool) : State :=
  State.transmit { s with link := s.link.setStream n none } (.finish x.tag n x.count cut) (some ⟨n, true⟩)

/-- A stream that sends its next item (R196). -/
def State.itemSent (s : State) (n : SlotNo) (x : Stream) (key : Nat) (r : ItemRecord) : State :=
  State.transmit { s with link := s.link.setStream n (some { x with lastKey := some key, count := x.count + 1 }) }
    (.item x.tag n (x.count + 1) x.set r) (some ⟨n, false⟩)

theorem State.sendReport_cut {n : SlotNo} {x : Stream} (h : x.cut = true) :
    s.sendReport n x = s.streamEnded n x true := by
  rw [State.sendReport, h]
  rfl

theorem State.sendReport_end {n : SlotNo} {x : Stream} (h : x.cut = false) (hitem : s.nextItem x = none) :
    s.sendReport n x = s.streamEnded n x false := by
  rw [State.sendReport, h, hitem]
  rfl

theorem State.sendReport_item {n : SlotNo} {x : Stream} (h : x.cut = false) {key : Nat} {r : ItemRecord}
    (hitem : s.nextItem x = some (key, r)) : s.sendReport n x = s.itemSent n x key r := by
  simp only [State.sendReport, State.itemSent, h, hitem, Bool.false_eq_true, if_false]

theorem State.nextItem_growers {x : Stream} (h : x.set = .growers) :
    s.nextItem x = (Table.above s.growers x.lastKey).map fun p => (p.1, .grower p.1 p.2) := by
  rw [State.nextItem, h]

theorem State.nextItem_deliveries {x : Stream} (h : x.set = .deliveries) :
    s.nextItem x = (s.dt.records.above x.lastKey).map fun p => (p.1, .delivery (s.deliveryReport p.1 p.2)) := by
  rw [State.nextItem, h]

theorem State.nextItem_windows {x : Stream} (h : x.set = .windows) :
    s.nextItem x = (s.windows.records.above x.lastKey).map fun p => (p.1, .window (s.windowReport p.1 p.2)) := by
  rw [State.nextItem, h]

/-- A stream that walks a table: its end where no record is above its last key, else its next item. -/
theorem State.sendReport_walk {α : Type} {n : SlotNo} {x : Stream} {t : Table α} {f : Nat × α → ItemRecord}
    (hcut : x.cut = false) (hitem : s.nextItem x = (t.above x.lastKey).map fun p => (p.1, f p)) :
    ((∀ p ∈ t, ¬ ∀ l, x.lastKey = some l → l < p.1) → s.sendReport n x = s.streamEnded n x false) ∧
    (∀ older k a newer, t = older ++ (k, a) :: newer → (∀ p ∈ older, ¬ ∀ l, x.lastKey = some l → l < p.1) →
      (∀ l, x.lastKey = some l → l < k) → s.sendReport n x = s.itemSent n x k (f (k, a))) := by
  refine ⟨fun hnone => ?_, fun older k a newer ht holder hk => ?_⟩
  · exact State.sendReport_end hcut (by rw [hitem, Table.above_eq_none hnone, Option.map_none])
  · exact State.sendReport_item hcut (by rw [hitem, ht, Table.above_append holder hk, Option.map_some])

end

/-- Settles O14: the order by the arbiter's cases, `State.pump_reply` to `State.pump_nothing`; a stream's next frame by
`State.sendReport_cut` and, for each table, `State.sendReport_walk`. -/
theorem arbiterChoosesInOrder : Obligations.ArbiterChoosesInOrder := by
  refine ⟨fun s hidle => ⟨fun r rest hr => State.pump_reply hidle hr, fun hr older n newer hqueue hn holder => ?_,
    fun hr hqueue hfree n rest hn => ?_, fun hr hqueue hnone t x ht hx => ?_, fun hr hn ht => ?_⟩, fun s n x => ?_⟩
  · exact State.pump_notice hidle hr (Link.chooseNotice_alarm hqueue hn holder)
  · exact State.pump_notice hidle hr (Link.chooseNotice_oldest hqueue hfree hn)
  · exact State.pump_report hidle hr (Link.chooseNotice_none hqueue hnone) ht hx
  · refine State.pump_nothing hidle hr (Link.chooseNotice_none (by simp [hn]) (.inr hn)) fun t ht' => ?_
    rw [ht] at ht'
    cases ht'
  · exact ⟨State.sendReport_cut, fun hcut hset => State.sendReport_walk hcut (State.nextItem_growers hset),
      fun hcut hset => State.sendReport_walk hcut (State.nextItem_deliveries hset),
      fun hcut hset => State.sendReport_walk hcut (State.nextItem_windows hset)⟩

section

variable {s : State} {f : Sending}

/-! ## The turn is settled (R194) -/

/-- The link once the frame on its transmitter has ended. -/
def Link.idle (l : Link) : Link := { l with sending := none }

theorem exec_transmitComplete_unmarked (hf : s.link.sending = some f) (hm : f.mark = none) :
    exec .transmitComplete s = .next (State.settleLink { s with link := s.link.idle }) := by
  have hend : s.endFrame = { s with link := s.link.idle } := by
    simp only [State.endFrame, hf, hm]
    rfl
  exact congrArg (fun u : State => Host.Outcome.next u.settleLink) hend

theorem exec_transmitComplete_marked (hf : s.link.sending = some f) {m : TurnMark} (hm : f.mark = some m) {l : Link}
    (hl : s.link.idle.settleTurn m = l) :
    exec .transmitComplete s = .next (State.settleLink { s with link := l }) := by
  have hend : s.endFrame = { s with link := l } := by
    simp only [State.endFrame, hf, hm]
    exact congrArg (fun l : Link => { s with link := l }) hl
  exact congrArg (fun u : State => Host.Outcome.next u.settleLink) hend

theorem Link.settleTurn_other {l : Link} {m : TurnMark} (h : ∀ t, l.turn = some t → t.slot ≠ m.slot) :
    l.settleTurn m = l := by
  unfold Link.settleTurn
  split
  · rfl
  · next t ht => rw [if_pos (h t ht)]

theorem Link.settleTurn_end {l : Link} {n : SlotNo} {k : Nat} (ht : l.turn = some ⟨n, k⟩) :
    l.settleTurn ⟨n, true⟩ = { l with turn := l.passTurn n } := by
  simp [Link.settleTurn, ht]

/-- A turn that is given up goes to the other slot's stream, or begins anew (R194). -/
theorem Link.passTurn_getD_eq (l : Link) (n : SlotNo) : (l.passTurn n).getD ⟨n, 0⟩ =
    (if (l.stream n.other).isSome then some ⟨n.other, 0⟩ else none : Option Turn).getD ⟨n, 0⟩ := by
  unfold Link.passTurn
  split
  · rfl
  · split
    · rfl
    · rfl

theorem Link.settleTurn_item {l : Link} {n : SlotNo} {k : Nat} (ht : l.turn = some ⟨n, k⟩) :
    l.settleTurn ⟨n, false⟩ = { l with turn :=
      if l.minRun + l.maxRun ≤ k + 1 then some ((l.passTurn n).getD ⟨n, 0⟩) else some ⟨n, k + 1⟩ } := by
  simp only [Link.settleTurn, ht, ne_eq, not_true_eq_false, if_false, Bool.false_eq_true]
  split
  · rfl
  · rfl

end

/-- Settles O15, by what the frame that ends counts for: `Link.settleTurn_other`, `Link.settleTurn_end` and
`Link.settleTurn_item`. -/
theorem transmitCompleteSettlesTheTurn : Obligations.TransmitCompleteSettlesTheTurn := by
  intro s f hf
  refine ⟨fun hm => exec_transmitComplete_unmarked hf hm, fun m hm hother => ?_, fun n k hm ht => ?_,
    fun n k hm ht => ?_⟩
  · exact exec_transmitComplete_marked hf hm (Link.settleTurn_other hother)
  · exact exec_transmitComplete_marked hf hm (Link.settleTurn_end (l := s.link.idle) ht)
  · refine exec_transmitComplete_marked hf hm ((Link.settleTurn_item (l := s.link.idle) ht).trans ?_)
    rw [Link.passTurn_getD_eq]
    rfl

end Sys2Proof.Machine

/-! SUPPORT. Report streams: how one starts and stops. -/
namespace Sys2Proof.Machine

open Sys2Proof

section

variable {l : Link} {n : SlotNo}

/-! ## A stream starts and stops (R194, R195, R197) -/

theorem Link.startStream_alone (h : l.stream n.other = none) (x : Stream) :
    l.startStream n x = { (l.setStream n (some x)).unmark with turn := some ⟨n, 0⟩ } := by
  rw [Link.startStream, h]
  rfl

theorem Link.startStream_beside (h : (l.stream n.other).isSome = true) (x : Stream) :
    l.startStream n x = l.setStream n (some x) := by
  rw [Link.startStream, h]
  rfl

/-- A stream that does not hold the turn leaves it as it is. -/
theorem Link.stopStream_waiting (h : (∀ t, l.turn = some t → t.slot ≠ n) ∨ l.endOnLine n = true) :
    l.stopStream n = l.setStream n none := by
  unfold Link.stopStream
  dsimp only
  split
  · next t ht =>
    refine if_neg fun ⟨hslot, hend⟩ => ?_
    rcases h with hother | hline
    · exact hother t ht hslot
    · rw [hline] at hend
      cases hend
  · rfl

/-- Once a slot is freed its turn passes to the other slot's stream, or to none. -/
theorem Link.passTurn_freed (l : Link) (n : SlotNo) : (l.setStream n none).passTurn n =
    if (l.stream n.other).isSome then some ⟨n.other, 0⟩ else none := by
  rw [Link.passTurn, Link.stream_setStream_ne l n.other_ne, Link.stream_setStream]
  rfl

theorem Link.stopStream_holding {k : Nat} (ht : l.turn = some ⟨n, k⟩) (hend : l.endOnLine n = false) :
    l.stopStream n = { l.setStream n none with
      sending := l.sending.map fun f => { f with mark := none }
      turn := if (l.stream n.other).isSome then some ⟨n.other, 0⟩ else none } := by
  rw [← Link.passTurn_freed, ← Link.setStream_sending l n none]
  simp only [Link.stopStream, ht, hend, and_self, if_true]
  rfl

end

section

variable {s : State} {tag : Byte}

/-! ## REPORT START and REPORT STOP -/

@[simp] theorem reportSetOf_code (k : ReportSet) : reportSetOf (reportSetCode k) = some k := by cases k <;> rfl

@[simp] theorem slotOf_code (n : SlotNo) : slotOf (slotCode n) = some n := by cases n <;> rfl

theorem reportSetOf_bad {set : Nat} (h : set = 0 ∨ 3 < set) : reportSetOf set = none := by
  unfold reportSetOf
  split
  · omega
  · omega
  · omega
  · rfl

theorem slotOf_bad {slot : Nat} (h : slot = 0 ∨ 2 < slot) : slotOf slot = none := by
  unfold slotOf
  split
  · omega
  · omega
  · rfl

/-- The stream that REPORT START begins (R195). -/
def Stream.fresh (k : ReportSet) (tag : Byte) : Stream :=
  { set := k, lastKey := none, count := 0, tag := tag, cut := false }

theorem exec_reportStart (h : s.ready) {n : SlotNo} (hfree : s.link.freeSlot = some n) (k : ReportSet) {l : Link}
    (hl : s.link.startStream n (.fresh k tag) = l) :
    exec (.reportStart tag (reportSetCode k)) s =
      .next (State.okReply { s with link := l } 0x98 tag (.reportSlot (slotCode n))) := by
  subst hl
  refine exec_taken h (.reportStart (reportSetCode k)) ?_ rfl
  simp only [decideRequest, decideReportStart, reportSetOf_code, hfree]
  rfl

theorem exec_reportStop (h : s.ready) {n : SlotNo} {x : Stream} (hx : s.link.stream n = some x) {l : Link}
    (hl : s.link.stopStream n = l) :
    exec (.reportStop tag (slotCode n)) s =
      .next (State.okReply { s with link := l } 0x99 tag (.itemCount x.count)) := by
  subst hl
  refine exec_taken h (.reportStop (slotCode n)) ?_ rfl
  simp only [decideRequest, decideReportStop, slotOf_code, hx]

end

/-- Settles O18: the slot taken by `Link.freeSlot`, the turn by `Link.startStream_alone`, `Link.startStream_beside`,
`Link.stopStream_waiting` and `Link.stopStream_holding`. -/
theorem reportStreamsStartAndStop : Obligations.ReportStreamsStartAndStop := by
  intro s tag hready
  refine ⟨fun k => ⟨fun h1 h2 => ?_, fun h1 h2 => ?_, fun h1 h2 => ?_, fun h1 h2 => ?_⟩, fun n x hx => ⟨fun h => ?_,
    fun k ht hend => ?_⟩, fun n hn => ?_, fun set hset => ?_, fun slot hslot => ?_⟩
  · exact exec_reportStart hready (n := .one) (by simp [Link.freeSlot, h1]) k
      (Link.startStream_alone (l := s.link) (n := .one) h2 _)
  · exact exec_reportStart hready (n := .one) (by simp [Link.freeSlot, h1]) k
      (Link.startStream_beside (l := s.link) (n := .one) h2 _)
  · exact exec_reportStart hready (n := .two) (by simp [Link.freeSlot, Option.isNone_eq_false_iff.mpr h1, h2]) k
      (Link.startStream_beside (l := s.link) (n := .two) h1 _)
  · refine exec_refused hready (.reportStart (reportSetCode k)) ?_ rfl
    simp [decideRequest, decideReportStart, Link.freeSlot, Option.isNone_eq_false_iff.mpr h1,
      Option.isNone_eq_false_iff.mpr h2]
  · exact exec_reportStop hready hx (Link.stopStream_waiting (h.imp_right Link.endOnLine_eq_true.mpr))
  · exact exec_reportStop hready hx
      (Link.stopStream_holding ht (Bool.eq_false_iff.mpr fun h => hend (Link.endOnLine_eq_true.mp h)))
  · refine exec_refused hready (.reportStop (slotCode n)) ?_ rfl
    simp only [decideRequest, decideReportStop, slotOf_code, hn]
  · refine exec_refused hready (.reportStart set) ?_ rfl
    simp only [decideRequest, decideReportStart, reportSetOf_bad hset]
  · refine exec_refused hready (.reportStop slot) ?_ rfl
    simp only [decideRequest, decideReportStop, slotOf_bad hslot]

end Sys2Proof.Machine

/-! SUPPORT. Requests and frames as bytes: what the decoder reads back of a frame's
body. -/
namespace Sys2Proof.Machine

open Sys2Proof

/-! ## Figures in bytes (R203) -/

@[simp] theorem beBytes_length (w v : Nat) : (beBytes w v).length = w := by
  induction w with
  | zero => rfl
  | succ w ih => rw [beBytes, List.length_cons, ih]

theorem foldl_beBytes (w v n : Nat) :
    (beBytes w v).foldl (fun n b => n * 256 + b.toNat) n = n * 256 ^ w + v % 256 ^ w := by
  induction w generalizing n with
  | zero => simp [beBytes, Nat.mod_one]
  | succ w ih =>
    have hmod : v % 256 ^ (w + 1) = v % 256 ^ w + 256 ^ w * (v / 256 ^ w % 256) := by rw [Nat.pow_succ, Nat.mod_mul]
    have hbyte : (BitVec.ofNat 8 (v / 256 ^ w)).toNat = v / 256 ^ w % 256 := BitVec.toNat_ofNat _ _
    rw [beBytes, List.foldl_cons, ih, hbyte, hmod]
    ring

/-- A figure that fits its place is read back from it. -/
theorem beNat_beBytes {w v : Nat} (h : fits w v = true) : beNat (beBytes w v) = v := by
  rw [beNat, foldl_beBytes, Nat.zero_mul, Nat.zero_add, Nat.mod_eq_of_lt (of_decide_eq_true h)]

theorem field_here {w v : Nat} (h : fits w v = true) (rest : List Byte) : field (beBytes w v ++ rest) 0 w = v := by
  rw [field, List.drop_zero, List.take_left' (beBytes_length w v), beNat_beBytes h]

theorem field_last {w v : Nat} (h : fits w v = true) : field (beBytes w v) 0 w = v := by
  have := field_here h []
  rwa [List.append_nil] at this

theorem field_later {w v k n : Nat} (h : w ≤ k) (rest : List Byte) :
    field (beBytes w v ++ rest) k n = field rest (k - w) n := by
  rw [field, List.drop_append, List.drop_eq_nil_of_le (by rwa [beBytes_length]), beBytes_length, List.nil_append, field]

/-! ## Field lists (R203) -/

/-- The entries of a field list, as bytes. -/
def entryBytesOf (w : Nat) (es : List (Nat × Nat)) : List Byte := es.flatMap fun e => beBytes 1 e.1 ++ beBytes w e.2

theorem entryBytesOf_length (w : Nat) (es : List (Nat × Nat)) : (entryBytesOf w es).length = (1 + w) * es.length := by
  induction es with
  | nil => rfl
  | cons e es ih =>
    rw [entryBytesOf, List.flatMap_cons, List.length_append, ← entryBytesOf, ih, List.length_append, beBytes_length,
      beBytes_length, List.length_cons, Nat.mul_succ, Nat.add_comm]

theorem listEntries_entryBytesOf {w : Nat} {es : List (Nat × Nat)}
    (h : ∀ e ∈ es, fits 1 e.1 = true ∧ fits w e.2 = true) :
    listEntries w es.length (entryBytesOf w es) = es := by
  induction es with
  | nil => rfl
  | cons e es ih =>
    obtain ⟨⟨hid, hvalue⟩, hes⟩ := List.forall_mem_cons.mp h
    have hbytes : entryBytesOf w (e :: es) = beBytes 1 e.1 ++ (beBytes w e.2 ++ entryBytesOf w es) := by
      rw [entryBytesOf, List.flatMap_cons, ← entryBytesOf, List.append_assoc]
    have hdrop : (entryBytesOf w (e :: es)).drop (1 + w) = entryBytesOf w es := by
      rw [hbytes, ← List.append_assoc, List.drop_left' (by simp)]
    rw [List.length_cons, listEntries, hdrop, ih hes, hbytes, field_here hid, field_later le_rfl, field_here hvalue]

theorem listBody_length (w target : Nat) (es : List (Nat × Nat)) :
    (listBody w target es).length = 2 + (1 + w) * es.length := by
  rw [listBody, ← entryBytesOf, List.length_append, List.length_append, beBytes_length, beBytes_length,
    entryBytesOf_length]

/-- A field list that its frame can hold is read back from its body. -/
theorem countedBody_listBody {w most target : Nat} {es : List (Nat × Nat)} (ht : fits 1 target = true)
    (hes : entriesFit w most es = true) (hmost : most < 256) (r : Nat → List (Nat × Nat) → Request) :
    countedBody (listBody w target es) w r = .ok (r target es) := by
  simp only [entriesFit, Bool.and_eq_true, decide_eq_true_eq, List.all_eq_true] at hes
  obtain ⟨hlength, hfits⟩ := hes
  have hbody : listBody w target es = beBytes 1 target ++ (beBytes 1 es.length ++ entryBytesOf w es) :=
    List.append_assoc _ _ _
  have hcount : field (listBody w target es) 1 1 = es.length := by
    rw [hbody, field_later le_rfl, field_here (decide_eq_true (by omega))]
  have hdrop : (listBody w target es).drop 2 = entryBytesOf w es := by
    rw [hbody, ← List.append_assoc, List.drop_left' (by simp)]
  have htarget : field (listBody w target es) 0 1 = target := by rw [hbody, field_here ht]
  rw [countedBody, hcount, htarget, hdrop, listEntries_entryBytesOf hfits, listBody_length,
    if_pos ⟨Nat.le_add_right _ _, rfl⟩]

/-! ## Requests (R189, R203, R204) -/

theorem timeOf_timeBytes {t : MillTime} (h : timeFits t = true) : timeOf (timeBytes t) = t := by
  simp only [timeFits, Bool.and_eq_true, decide_eq_true_eq] at h
  obtain ⟨⟨⟨⟨⟨⟨hy, hy'⟩, hmonth⟩, hday⟩, hhour⟩, hminute⟩, hsecond⟩ := h
  have hyear : fits 1 (t.year - 2000) = true := decide_eq_true (by omega)
  simp [timeOf, timeBytes, List.append_assoc, field_here, field_later, field_last, hyear, hmonth, hday, hhour, hminute,
    hsecond, Nat.add_sub_cancel' hy]

/-- Settles O9: the field lists by `countedBody_listBody`, the time by `timeOf_timeBytes`, every other request field by
field, each at its place in the body: `field_here`, `field_later` and `field_last`. -/
theorem requestsSurviveTheirFrames : Obligations.RequestsSurviveTheirFrames := by
  intro r tag h
  cases r
  all_goals simp only [Request.command, wellFormed, Bool.and_eq_true] at h
  case profileLoad => exact countedBody_listBody h.1 h.2 (by decide) .profileLoad
  case configSet => exact countedBody_listBody h.1 h.2 (by decide) .configSet
  case lineSet => exact countedBody_listBody h.1 h.2 (by decide) .lineSet
  case timeSet t =>
    have hdecode : decodeRequest (requestFrame (.timeSet t) tag) = .ok (.timeSet (timeOf (timeBytes t))) := rfl
    rw [hdecode, timeOf_timeBytes h]
  all_goals
    simp [decodeRequest, requestFrame, requestKind, requestBody, fixedBody, List.append_assoc, field_here, field_later,
      field_last, h]

end Sys2Proof.Machine

/-! SUPPORT. Frames that arrive: what the receiver makes of their bytes, and what the port makes of whole frames, of bad
ones and of those that wait. -/
namespace Sys2Proof.Machine

open Sys2Proof

section

variable {s : State}

/-! ## A waiting frame at the end of a step (R189) -/

/-- The state with the input buffer as given. -/
def State.withInput (s : State) (frames : List Frame) : State := { s with link := { s.link with input := frames } }

theorem State.sendReport_withInput (s : State) (n : SlotNo) (x : Stream) (frames : List Frame) :
    (s.withInput frames).sendReport n x = (s.sendReport n x).withInput frames := by
  have hitem : (s.withInput frames).nextItem x = s.nextItem x := rfl
  unfold State.sendReport
  rw [hitem]
  cases n
  all_goals
    dsimp only
    repeat' split
    all_goals rfl

/-- The arbiter does not look at the input buffer. -/
theorem State.pump_withInput (s : State) (frames : List Frame) :
    (s.withInput frames).pump = s.pump.withInput frames := by
  refine State.pump_cases (P := fun t => (s.withInput frames).pump = t.withInput frames) s ?_ ?_ ?_ ?_ ?_
  · exact fun hbusy => State.pump_of_sending _ hbusy
  · exact fun r rest hidle hr => State.pump_reply (s := s.withInput frames) hidle hr
  · exact fun n rest hidle hr hn => State.pump_notice (s := s.withInput frames) hidle hr hn
  · intro t x hidle hr hn ht hx
    have hx' : (s.withInput frames).link.stream t.slot = some x := by rw [← hx]; cases t.slot <;> rfl
    rw [State.pump_report (s := s.withInput frames) hidle hr hn ht hx', State.sendReport_withInput]
  · intro hidle hr hn hx
    refine State.pump_nothing (s := s.withInput frames) hidle hr hn fun t ht => ?_
    rw [← hx t ht]
    cases t.slot <;> rfl

/-- An answered request leaves the input buffer as its decision does: as it was. -/
theorem State.dispatch_input (s : State) (f : Frame) : (s.dispatch f).link.input = s.link.input := by
  have hanswer (kind tag : Byte) (d : Decision) (hd : (d.after s).link.input = s.link.input) :
      (s.answer kind tag d).link.input = s.link.input := by
    cases d <;> exact hd
  unfold State.dispatch
  split
  · exact hanswer _ _ _ (decideRequest_portKept _ _ s).input
  · rfl
  · exact hanswer _ _ (.refuse _) rfl

/-- A frame that a ready port receives is dispatched once the arbiter has taken what it could, and the arbiter then
chooses again (R188, R189, R193). -/
theorem State.receiveFrame_ready (h : s.ready) (f : Frame) :
    (s.receiveFrame f).settleLink = (s.pump.dispatch f).pump := by
  obtain ⟨hinput, hroom⟩ := h
  have hreceived : s.receiveFrame f = s.withInput [f] := by
    rw [State.receiveFrame, hinput]
    rfl
  have hempty : s.pump.withInput [] = s.pump := by
    rw [← hinput, ← s.pump_link_input]
    rfl
  have hdone : (s.pump.dispatch f).settle 1 = (s.pump.dispatch f).pump := by
    have hnone : (s.pump.dispatch f).pump.link.input = [] := by
      rw [State.pump_link_input, State.dispatch_input, State.pump_link_input, hinput]
    rw [State.settle]
    simp only [hnone]
  have hplace : (s.pump.withInput [f]).link.replies.length < Config.bufferCapacity := s.pump_lengths.1.trans_lt hroom
  rw [hreceived, ← hdone]
  change State.settle 2 _ = _
  rw [State.settle, State.pump_withInput]
  change (if (s.pump.withInput [f]).link.replies.length < Config.bufferCapacity then
    State.settle 1 (State.dispatch (s.pump.withInput []) f) else _) = _
  rw [if_pos hplace, hempty]

/-! ## The receiver over a frame's bytes (R186, R187) -/

/-- What comes of a frame whose last byte has arrived: taken, or discarded when its check disagrees. -/
def State.frameEnds (s : State) (taken : List Byte) : State :=
  match frameOfBytes taken with
  | some f => (s.receiveFrame f).settleLink
  | none => s.raise .frameError

/-- The rest of a frame is fed to a receiver that has its length. -/
theorem State.feed_body (rest : List Byte) : ∀ (s : State) (taken : List Byte), rest ≠ [] →
    rest.foldl State.feedByte (s.setReceiver (.body taken rest.length)) =
      (s.setReceiver .hunting).frameEnds (taken ++ rest) := by
  induction rest with
  | nil => exact fun _ _ h => absurd rfl h
  | cons b rest ih =>
    intro s taken _
    rw [List.foldl_cons]
    cases rest with
    | nil => rfl
    | cons c rest =>
      have hnext : (s.setReceiver (.body taken (b :: c :: rest).length)).feedByte b =
          s.setReceiver (.body (taken ++ [b]) (c :: rest).length) := rfl
      rw [hnext, ih s (taken ++ [b]) (List.cons_ne_nil c rest), List.append_assoc]
      rfl

/-- A whole frame is fed to a receiver that hunts. -/
theorem State.feed_whole {bytes : List Byte} (h : wholeFrame bytes = true) (hhunt : s.link.receiver = .hunting) :
    bytes.foldl State.feedByte s = s.frameEnds bytes.tail := by
  match bytes, h with
  | start :: l :: rest, h =>
    simp only [wholeFrame, Bool.and_eq_true, decide_eq_true_eq, beq_iff_eq] at h
    obtain ⟨⟨⟨rfl, hlow⟩, hhigh⟩, hlength⟩ := h
    have hstart : s.feedByte 0xA5 = s.setReceiver .length := by simp [State.feedByte, hhunt]
    have hlen : (s.setReceiver .length).feedByte l = s.setReceiver (.body [l] rest.length) := by
      rw [hlength]
      exact if_neg (by omega)
    have hself : s.setReceiver .hunting = s := by rw [← hhunt]; rfl
    have hrest : rest ≠ [] := by
      rintro rfl
      simp at hlength
    rw [List.foldl_cons, List.foldl_cons, hstart, hlen, State.feed_body rest s [l] hrest, hself]
    rfl

/-! ## The bytes of a request's frame (R203) -/

/-- The bytes that a frame's check covers: its length, kind, tag and body (R203). -/
def coveredBytes (kind tag : Byte) (body : List Byte) : List Byte :=
  BitVec.ofNat 8 (body.length + 2) :: kind :: tag :: body

theorem frameBytes_eq (kind tag : Byte) (body : List Byte) : frameBytes kind tag body =
    0xA5 :: (coveredBytes kind tag body ++ checkBytes (checkOf (coveredBytes kind tag body))) := rfl

@[simp] theorem checkBytes_length (c : Check) : (checkBytes c).length = 2 := beBytes_length _ _

theorem wholeFrame_frameBytes (kind tag : Byte) {body : List Byte} (h : body.length ≤ 248) :
    wholeFrame (frameBytes kind tag body) = true := by
  have hl : (BitVec.ofNat 8 (body.length + 2)).toNat = body.length + 2 :=
    (BitVec.toNat_ofNat _ _).trans (Nat.mod_eq_of_lt (by omega))
  simp only [frameBytes_eq, coveredBytes, List.cons_append, wholeFrame, hl, List.length_cons, List.length_append,
    checkBytes_length, Bool.and_eq_true, decide_eq_true_eq, beq_iff_eq]
  exact ⟨⟨⟨trivial, by omega⟩, by omega⟩, trivial⟩

/-- A frame's own bytes are a whole frame with a check that agrees. -/
theorem frameOfBytes_frameBytes (kind tag : Byte) (body : List Byte) :
    frameOfBytes (frameBytes kind tag body).tail = some ⟨kind, tag, body⟩ := by
  have hlength : (coveredBytes kind tag body ++ checkBytes (checkOf (coveredBytes kind tag body))).length - 2 =
      (coveredBytes kind tag body).length := by
    rw [List.length_append, checkBytes_length, Nat.add_sub_cancel]
  rw [frameBytes_eq, List.tail_cons, frameOfBytes]
  simp only [hlength, List.take_left, List.drop_left, if_true]
  rfl

/-- A well-formed request's body has room in a frame (R203). -/
theorem requestBody_length {r : Request} {tag : Byte} (h : wellFormed (r.command tag) = true) :
    (requestBody r).length ≤ 248 := by
  have hlist (w target most : Nat) (es : List (Nat × Nat)) (hes : entriesFit w most es = true)
      (hmost : 2 + (1 + w) * most ≤ 248) : (listBody w target es).length ≤ 248 := by
    simp only [entriesFit, Bool.and_eq_true, decide_eq_true_eq] at hes
    have := Nat.mul_le_mul_left (1 + w) hes.1
    have hsize := listBody_length w target es
    omega
  cases r
  all_goals simp only [Request.command, wellFormed, Bool.and_eq_true] at h
  case profileLoad => exact hlist _ _ _ _ h.2 (by decide)
  case configSet => exact hlist _ _ _ _ h.2 (by decide)
  case lineSet => exact hlist _ _ _ _ h.2 (by decide)
  all_goals simp [requestBody, timeBytes]

end

/-- A port with nothing it could send takes a frame that it receives at once. -/
theorem State.receiveFrame_quiet {s : State} (h : s.ready) (hpump : s.pump = s) (f : Frame) :
    (s.receiveFrame f).settleLink = (s.dispatch f).settleLink := by
  rw [State.receiveFrame_ready h, hpump, State.settleLink_of_empty _ ((s.dispatch_input f).trans h.1)]

/-- With no frame waiting, the port's end of a step done twice is the one end of the step. -/
theorem State.settleLink_settleLink {s : State} (h : s.link.input = []) : s.settleLink.settleLink = s.settleLink := by
  rw [State.settleLink_of_empty s h, State.settleLink_of_empty _ (s.pump_link_input.trans h), State.pump_pump]

/-- The frame of a well-formed request is dispatched as the request (R189). -/
theorem State.dispatch_requestFrame {r : Request} {tag : Byte} (h : wellFormed (r.command tag) = true) (s : State) :
    s.dispatch (requestFrame r tag) = s.answer (BitVec.ofNat 8 (requestKind r)) tag (decideRequest r tag s) := by
  rw [State.dispatch, requestsSurviveTheirFrames r tag h]
  rfl

/-- Settles O10: the receiver makes the request's frame of the bytes, `State.feed_whole`, and the port dispatches it. -/
theorem wholeFramesActAsTheirRequests : Obligations.WholeFramesActAsTheirRequests := by
  intro s r tag hwf hready hpump hhunt bytes
  have hfeed : bytes.foldl State.feedByte s =
      (s.answer (BitVec.ofNat 8 (requestKind r)) tag (decideRequest r tag s)).settleLink := by
    rw [State.feed_whole (wholeFrame_frameBytes _ _ (requestBody_length hwf)) hhunt, State.frameEnds,
      frameOfBytes_frameBytes, ← State.dispatch_requestFrame hwf]
    exact State.receiveFrame_quiet hready hpump (requestFrame r tag)
  have hinput : (s.answer (BitVec.ofNat 8 (requestKind r)) tag (decideRequest r tag s)).link.input = [] := by
    rw [← State.dispatch_requestFrame hwf, State.dispatch_input, hready.1]
  have hexec : exec (.frameReceived bytes) s =
      .next (s.answer (BitVec.ofNat 8 (requestKind r)) tag (decideRequest r tag s)).settleLink := by
    rw [← State.settleLink_settleLink hinput, ← hfeed]
    rfl
  exact ⟨hexec, by rw [hexec, exec_command, State.submit_ready hready]⟩

section

variable {s : State}

/-! ## Frames that are answered BAD_KIND or discarded (R187, R189) -/

theorem decodeRequest_badKind {f : Frame} (h : requestKinds.contains f.kind.toNat = false) :
    decodeRequest f = .error .badKind := by
  have hne (k : Nat) (hk : k ∈ requestKinds) : f.kind.toNat ≠ k := fun heq => by
    rw [heq, List.contains_iff_mem.mpr hk] at h
    cases h
  unfold decodeRequest
  dsimp only
  split
  case h_41 => rfl
  all_goals exact absurd ‹f.kind.toNat = _› (hne _ (by decide))

theorem State.badLength_bad {l : Byte} (hl : l.toNat < 2 ∨ 250 < l.toNat)
    (hr : s.link.receiver = .hunting ∨ s.link.receiver = .length) :
    s.badLength l = (s.setReceiver .hunting).raise .frameError := by
  have hlength {t : State} (ht : t.link.receiver = .length) :
      t.feedByte l = (t.setReceiver .hunting).raise .frameError := by
    simp only [State.feedByte, ht, hl, if_true]
  rcases hr with hr | hr
  · have hstart : s.feedByte 0xA5 = s.setReceiver .length := by simp [State.feedByte, hr]
    simp only [State.badLength, hr]
    rw [hstart, hlength rfl]
    rfl
  · simp only [State.badLength, hr]
    exact hlength hr

end

/-- Settles O11: the unknown kind by `State.receiveFrame_ready`, the bad check by `State.feed_whole`. -/
theorem badFramesAreAnsweredOrDiscarded : Obligations.BadFramesAreAnsweredOrDiscarded := by
  refine ⟨fun s kind tag body hready hwf => ?_, fun s => ⟨fun l hl hr => ?_, rfl, fun bytes hwhole hbad hhunt => ?_⟩⟩
  · simp only [wellFormed, Bool.and_eq_true, Bool.not_eq_true'] at hwf
    have hdispatch : s.pump.dispatch ⟨kind, tag, body⟩ =
        s.pump.placeReply { kind := 0xFF, tag := tag, code := .badKind, content := .kindReceived kind } := by
      rw [State.dispatch, decodeRequest_badKind hwf.1]
    rw [← hdispatch, ← State.receiveFrame_ready hready]
    rfl
  · rw [← State.badLength_bad hl hr]
    rfl
  · have hfeed : bytes.foldl State.feedByte s = s.raise .frameError := by
      rw [State.feed_whole hwhole hhunt, State.frameEnds, hbad]
    rw [← hfeed]
    rfl

/-- Settles O12: the refusal by `State.submit_refuse`; a busy port only receives the frame, `State.receiveFrame`. -/
theorem refusedAndWaitingRequestsChangeNothing : Obligations.RefusedAndWaitingRequestsChangeNothing := by
  refine ⟨fun s r tag code hready hd => ?_, fun s r tag hbusy hfull => ?_⟩
  · rw [exec_command, State.submit_refuse hready r tag code hd, State.refusal]
    exact congrArg Host.Outcome.next (State.settleLink_of_empty _ hready.1)
  · have hnot : ¬ s.ready := fun h => absurd h.2 (Nat.not_lt.mpr hfull)
    rw [exec_command, State.submit_waits hnot, State.receiveFrame]
    split
    · exact congrArg Host.Outcome.next (State.settleLink_of_busy hbusy hfull)
    · exact congrArg Host.Outcome.next (State.settleLink_of_busy hbusy hfull)

end Sys2Proof.Machine
